-- ==== Sys2Proof/Word.lean ====
section
/-! DEFINITION. The machine's two word types (spec 00 R5, R7): 8-bit bytes and 16-bit words. -/
namespace Sys2Proof

/-- A byte: register halves, memory cells, I/O registers (00 R5: data width 8 bits). -/
abbrev Byte := BitVec 8

/-- A 16-bit word: register pairs, `SP`, `PC`, bus addresses (00 R5: address width 16 bits). -/
abbrev Word := BitVec 16

end Sys2Proof
end

