-- ==== Sys2Proof/Machine/Bits.lean ====
section
/-! DEFINITION. Bit fields, sign extension and byte order (00 R7, R9; 20 R82). -/
namespace Sys2Proof

/-- `v[i]` of 00 R7 for a byte. -/
def bit (v : Byte) (i : Nat) : Bool := v.getLsbD i

/-- One bit as a number, 0 or 1. -/
def bitVal (b : Bool) : Nat := if b then 1 else 0

/-- `hi:lo`, the 16-bit value of two bytes (00 R7). -/
def wordOf (hi lo : Byte) : Word := hi ++ lo

/-- `v[15:8]`. -/
def hiByte (v : Word) : Byte := v.extractLsb' 8 8

/-- `v[7:0]`. -/
def loByte (v : Word) : Byte := v.extractLsb' 0 8

/-- `sext_16` of 00 R7. -/
def sext16 (v : Byte) : Word := v.signExtend 16

/-- `zext_16` of 00 R7. -/
def zext16 (v : Byte) : Word := v.setWidth 16

/-- `signed8` of 00 R7. -/
def signed8 (v : Byte) : Int := if v.toNat < 128 then (v.toNat : Int) else (v.toNat : Int) - 256

/-- The address `0xFF00 + n` of the high page (30 R128). -/
def highPage (n : Byte) : Word := 0xFF00#16 + zext16 n

end Sys2Proof
end

