-- ==== Sys2Proof/Config.lean ====
section
/-! DEFINITION. The configuration: the parameters of 00 R6, with the spec's defaults, and the free values
the spec leaves open (opaque constants: nothing can be proved of the value they take). -/
namespace Sys2Proof

/-- The bank controller variants. `noMbc` and `mbc1` are 20 R90; `independent` is the variant 20 R98 sketches,
which no default map selects (log 18). -/
inductive Mbc where
  | noMbc
  | mbc1
  | independent
deriving DecidableEq, Repr

/-- `WINDOW_TILE_MODE` of 00 R6 (60 R352): how the window layer addresses its tile data. -/
inductive WindowTileMode where
  | followLcdc
  | unsigned
  | signed
deriving DecidableEq, Repr

/-- `SAMPLE_PERIOD` and `RING_CAPACITY` of 00 R6 (60 R368), given together or not at all (log 16). -/
structure SampleOut where
  period : Nat
  capacity : Nat
deriving DecidableEq, Repr

/-- The parameters of 00 R6. The default of every field is the spec's. -/
structure Config where
  /-- `INT_DISPATCH_TICKS` (60 R313) -/
  intDispatchTicks : Nat := 20
  /-- `HALT_IDLE_TICKS` (60 R321) -/
  haltIdleTicks : Nat := 4
  /-- `EI_DELAY` (46 R294) -/
  eiDelay : Bool := true
  /-- `CART_TYPE_MAP` (20 R90): header type byte and variant -/
  cartTypeMap : List (Nat × Mbc) := [(0x00, .noMbc), (0x01, .mbc1), (0x02, .mbc1), (0x03, .mbc1)]
  /-- `UNUSABLE_READ` (20 R71): `none` is the spec's default, a draw at each read (log 6) -/
  unusableRead : Option Byte := none
  /-- `IO_RESET` (70 R404): the bytes where the parameter differs from the spec's table -/
  ioReset : List (Nat × Byte) := []
  /-- `LY_RESET` (60 R340) -/
  lyReset : Byte := 144
  /-- `VBLANK_LINE_STEP` (60 R345) -/
  vblankLineStep : Nat := 500
  /-- `T_OAM` (60 R341) -/
  tOam : Nat := 80
  /-- `T_XFER` (60 R341) -/
  tXfer : Nat := 172
  /-- `T_HBLANK` (60 R341) -/
  tHblank : Nat := 204
  /-- `T_VBLANK` (60 R341) -/
  tVblank : Nat := 4560
  /-- `DIV_PERIOD` (60 R331) -/
  divPeriod : Nat := 256
  /-- `TIMA_PERIOD[0]` (60 R332) -/
  timaPeriod0 : Nat := 1024
  /-- `TIMA_PERIOD[1]` (60 R332) -/
  timaPeriod1 : Nat := 16
  /-- `TIMA_PERIOD[2]` (60 R332) -/
  timaPeriod2 : Nat := 64
  /-- `TIMA_PERIOD[3]` (60 R332) -/
  timaPeriod3 : Nat := 256
  /-- `FS_PERIOD` (60 R361) -/
  fsPeriod : Nat := 8192
  /-- `SAMPLE_PERIOD`, `RING_CAPACITY` (60 R368): OPEN, not given by default -/
  sampleOut : Option SampleOut := none
  /-- `DMA_LENGTH` (20 R80) -/
  dmaLength : Nat := 160
  /-- `WINDOW_TILE_MODE` (60 R352) -/
  windowTileMode : WindowTileMode := .followLcdc
  /-- `MAX_SPRITES_PER_LINE` (60 R353) -/
  maxSpritesPerLine : Nat := 10
deriving DecidableEq, Repr

/-- The configuration with every parameter at the default of 00 R6. -/
def Config.default : Config := {}

/-- The stores whose contents after boot the spec leaves unspecified (70 R405), and the others (10 R31). -/
inductive Store where
  | rom | vram | wram | eram | oam | io | hram | framebuffer
deriving DecidableEq, Repr

/-- FREE VALUE (log 5). `RAM_INIT` of 00 R6: the byte that the cell at an index of a store holds after boot
number `boot`, until it is written (70 R405: "each byte holds some value, fixed for the run, that the spec
does not give"). -/
opaque Config.ramInit : (boot : Nat) → Store → (index : Nat) → Byte

/-- FREE VALUE (log 6). `UNUSABLE_READ` of 00 R6: the value of the `n`th read of the unusable region (20 R71:
"any 8-bit value, independently at each read"). -/
opaque Config.unusableDraw : (n : Nat) → Byte

/-- FREE VALUE (log 16). `Mix` of 00 R6: the uninterpreted sample of two channel amplitudes and the bytes
NR50, NR51 (60 R368). -/
opaque Config.mix : (amp1 amp2 : Int) → (nr50 nr51 : Byte) → Byte

end Sys2Proof
end

