-- ==== Sys2Proof/Machine/Memory.lean ====
section
/-! DEFINITION. Memory as plain data: a list of (index, byte) cells in one canonical form, what an unlisted index
reads as, and the operations on such a list. -/
namespace Sys2Proof.Machine

/-- A store's cells: index within the store, byte. -/
abbrev Memory := List Host.Cell

/-- `IO_RESET` (70 R404), by offset from 0xFF00; every offset not in the table is 0x00. -/
def ioReset (offset : Nat) : Byte :=
  match offset with
  | 0x00 => 0xCF
  | 0x02 => 0x7E
  | 0x10 => 0x80
  | 0x11 => 0xBF
  | 0x12 => 0xF3
  | 0x13 => 0xFF
  | 0x14 => 0xBF
  | 0x16 => 0x3F
  | 0x18 => 0xFF
  | 0x19 => 0xBF
  | 0x24 => 0x77
  | 0x25 => 0xF3
  | 0x26 => 0xF0
  | 0x40 => 0x91
  | 0x41 => 0x81
  | 0x44 => 0x90
  | 0x46 => 0xFF
  | 0x47 => 0xFC
  | 0x48 => 0xFF
  | 0x49 => 0xFF
  | _ => 0x00

/-- What an unlisted index of a store reads as: the I/O page its reset contents (70 R404, log 8), the ROM image zero
(only the non-zero bytes of an image are listed, log 7), every other store NO value of its own: the machine then
reads the free value `Config.ramInit` (70 R405, log 5). -/
def unlisted (st : Store) (index : Nat) : Option Byte :=
  match st with
  | .rom => some 0
  | .io => some (ioReset index)
  | .vram | .wram | .eram | .oam | .hram | .framebuffer => none

/-- The listed byte at an index. -/
def Memory.lookup : Memory → Nat → Option Byte
  | [], _ => none
  | c :: rest, index => if c.1 = index then some c.2 else Memory.lookup rest index

/-- List a byte at an index, in rising order, replacing the byte listed there. -/
def Memory.insert : Memory → Nat → Byte → Memory
  | [], index, v => [(index, v)]
  | c :: rest, index, v =>
    if index < c.1 then (index, v) :: c :: rest
    else if index = c.1 then (index, v) :: rest
    else c :: Memory.insert rest index v

/-- Unlist an index. -/
def Memory.erase : Memory → Nat → Memory
  | [], _ => []
  | c :: rest, index => if c.1 = index then Memory.erase rest index else c :: Memory.erase rest index

/-- The byte a store holds at an index; `none` where it holds no value of its own. -/
def Memory.read (st : Store) (m : Memory) (index : Nat) : Option Byte :=
  match m.lookup index with
  | some v => some v
  | none => unlisted st index

/-- Store a byte, keeping the canonical form: a byte equal to what the unlisted index reads as is not listed. -/
def Memory.write (st : Store) (m : Memory) (index : Nat) (v : Byte) : Memory :=
  if unlisted st index = some v then m.erase index else m.insert index v

/-- The indices of a list of cells rise strictly. -/
def Memory.sorted : Memory → Bool
  | [] => true
  | [_] => true
  | c :: d :: rest => decide (c.1 < d.1) && Memory.sorted (d :: rest)

/-- The canonical form: indices strictly rising, no cell equal to what its unlisted index reads as. -/
def Memory.wf (st : Store) (m : Memory) : Bool :=
  m.sorted && m.all (fun c => decide (unlisted st c.1 ≠ some c.2))

/-- The cells of a dense run of bytes from an index on. -/
def Memory.ofBytes : Nat → List Byte → Memory
  | _, [] => []
  | index, v :: rest => (index, v) :: Memory.ofBytes (index + 1) rest

end Sys2Proof.Machine
end

