-- ==== Sys2Proof/WellFormed.lean ====
section
/-! DEFINITION. Well-formedness, as Boolean checks: an instruction has a handler (30 R132); a cartridge image
meets the loader's preconditions (20 R92, 70 R407); a configuration keeps the device-owned fields consistent. -/
namespace Sys2Proof

/-- The rows of the opcode table that have no handler (30 R132). -/
def Instr.withoutHandler : List Instr :=
  [.illegal_D3, .illegal_DB, .illegal_DD, .illegal_E3, .illegal_E4, .illegal_EB, .illegal_EC, .illegal_ED,
   .illegal_F4, .illegal_FC, .illegal_FD]

/-- An instruction is well formed when its opcode has a handler (30 R132, R133). Operands need no check: every
value of an operand byte or word is legal. -/
def Instr.wellFormed (i : Instr) : Bool := !(Instr.withoutHandler.contains i)

/-- The byte of a ROM image at an offset: the listed byte, or zero. -/
def CartImage.byteAt (r : CartImage) (offset : Nat) : Byte :=
  match r.rom.find? (fun c => c.1 == offset) with
  | some c => c.2
  | none => 0

/-- The hardware-type byte (20 R91). -/
def CartImage.hwType (r : CartImage) : Byte := r.byteAt 0x0147

/-- The ROM size code (20 R91). -/
def CartImage.romCode (r : CartImage) : Nat := (r.byteAt 0x0148).toNat

/-- The RAM size code (20 R91). -/
def CartImage.ramCode (r : CartImage) : Nat := (r.byteAt 0x0149).toNat

/-- The bytes of external RAM that a RAM size code declares (20 R92); codes above 5 declare nothing. -/
def ramSizeOfCode : Nat → Nat
  | 1 => 2048
  | 2 => 8192
  | 3 => 32768
  | 4 => 131072
  | 5 => 65536
  | _ => 0

/-- The listed bytes of a ROM image are in rising order of offset and none is the zero that an unlisted byte reads as. -/
def cellsCanonical : List (Nat × Byte) → Bool
  | [] => true
  | [c] => c.2 != 0
  | c :: d :: rest => c.2 != 0 && decide (c.1 < d.1) && cellsCanonical (d :: rest)

/-- The preconditions on what the host's loader hands over (20 R92, 70 R407): known size codes, an image exactly
as long as its size code says, listed bytes inside it and in canonical form, a save file as long as its RAM size
code says. Outside them the spec defines nothing (93 U4). -/
def CartImage.wellFormed (r : CartImage) : Bool :=
  decide (r.romCode ≤ 8) && decide (r.ramCode ≤ 5) && decide (r.romSize = 0x8000 <<< r.romCode)
    && cellsCanonical r.rom && r.rom.all (fun c => decide (c.1 < r.romSize))
    && match r.save with
       | none => true
       | some bytes => decide (bytes.length = ramSizeOfCode r.ramCode)

/-- A configuration whose overrides leave the device-owned bytes STAT, LY and NR52 alone (their reset values
follow from the reset device state, 70 R404), lie in the I/O page, start the scanline inside V-blank (60 R340)
and copy no more than the sprite table holds (20 R80; log 24). -/
def Config.wellFormed (k : Config) : Bool :=
  k.ioReset.all (fun c => decide (c.1 < 128) && !([0x26, 0x41, 0x44].contains c.1))
    && decide (144 ≤ k.lyReset.toNat) && decide (k.lyReset.toNat ≤ 153) && decide (k.dmaLength ≤ 160)

end Sys2Proof
end

