-- ==== Sys2Proof/Machine/State.lean ====
section
/-! DEFINITION. The state of the machine (10 R20 to R39), as plain data, the reasons a run stops, and the state
after reset (70 R400 to R405). -/
namespace Sys2Proof.Machine

/-- The fatal stops of 60 R300 to R303. A stop first puts the machine into `RunState.faulted`, with everything
before it in effect; `step` then answers the stop as its fault, for ever (60 R300: "no rule applies in the faulted
state"). -/
inductive Fault where
  /-- 60 R301: the opcode fetched at `address` has no handler. Raised by the meanings of the eleven illegal opcodes. Safe. -/
  | unimplementedInstruction (opcode : Byte) (address : Word)
  /-- 60 R302: a bus access to external RAM on a cartridge that has none. Raised by every bus access. Safe. -/
  | invalidBankDispatch (address : Word)
  /-- 60 R303: the cartridge's hardware-type byte selects no bank controller. Raised by boot. Safe. -/
  | unsupportedCartridgeType (type : Byte)
deriving DecidableEq, Repr

/-- What the model does not define. -/
inductive Refusal where
  /-- An instruction that has no meaning yet. Raised by `exec` only. Safe. -/
  | notModelled (mnemonic : String)
  /-- 93 U4: the host boots an image that breaks the loader's preconditions (20 R92, 70 R407). Raised by the boot
  move. Safe: outside the preconditions the spec defines nothing (log 17). -/
  | illFormedCartridge
deriving DecidableEq, Repr

/-- The CPU's run state (10 R29). -/
inductive RunState where
  | running
  | halted
  | stopped
  | faulted (info : Fault)
deriving DecidableEq, Repr

/-- The CPU (10 R20 to R29). -/
structure Cpu where
  a : Byte
  f : Byte
  b : Byte
  c : Byte
  d : Byte
  e : Byte
  h : Byte
  l : Byte
  sp : Word
  pc : Word
  ime : Bool
  eiPending : Bool
  runState : RunState
  ticks : Nat
deriving DecidableEq, Repr

/-- The backing stores (10 R31): the cartridge's ROM image and external RAM, the bus's arrays, the
interrupt-enable byte, and the video unit's framebuffer (10 R36, 60 R355). -/
structure Stores where
  rom : Memory
  vram : Memory
  wram : Memory
  eram : Memory
  oam : Memory
  io : Memory
  hram : Memory
  framebuffer : Memory
  ie : Byte
deriving DecidableEq, Repr

/-- What boot read from the cartridge header (20 R90, R92): the bound variant and the two size codes. -/
structure Cart where
  mbc : Mbc
  romCode : Nat
  ramCode : Nat
deriving DecidableEq, Repr

/-- The bank controller's state (10 R34); `mode` is the banking-mode flag. -/
structure MbcRegs where
  ramEnable : Bool
  romBank : BitVec 7
  ramBank : BitVec 2
  mode : Bool
  dirty : Bool
deriving DecidableEq, Repr

/-- The timer's state outside the I/O page (10 R35). -/
structure Timer where
  localTicks : Nat
  divAcc : Nat
  timaAcc : Nat
deriving DecidableEq, Repr

/-- The video unit's modes (10 R36, 60 R340). -/
inductive VideoMode where
  | hblank | vblank | oamSearch | transfer
deriving DecidableEq, Repr

/-- The video unit's state outside the I/O page and the framebuffer (10 R36); `notifications` counts the V-blank
notifications handed to the host (60 R349; a field of the model, log 21). -/
structure Video where
  localTicks : Nat
  mode : VideoMode
  modeTicks : Nat
  notifications : Nat
deriving DecidableEq, Repr

/-- A tone channel's state (10 R37). -/
structure Channel where
  enabled : Bool
  volume : Nat
  envTimer : Nat
  length : Nat
  freqTimer : Nat
  dutyPos : Fin 8
deriving DecidableEq, Repr

/-- The audio unit's state outside the I/O page (10 R37); the last three fields are channel 1's sweep. -/
structure Audio where
  localTicks : Nat
  fsAcc : Nat
  fsStep : Fin 8
  sampleAcc : Nat
  ring : List Byte
  ch1 : Channel
  ch2 : Channel
  sweepEnabled : Bool
  sweepTimer : Nat
  shadowFreq : BitVec 11
deriving DecidableEq, Repr

/-- The joypad's buttons, true when pressed (10 R38). -/
structure Buttons where
  right : Bool
  left : Bool
  up : Bool
  down : Bool
  a : Bool
  b : Bool
  select : Bool
  start : Bool
deriving DecidableEq, Repr

/-- The names of the buttons (60 R375). -/
inductive Button where
  | right | left | up | down | a | b | select | start
deriving DecidableEq, Repr

/-- The moves by which the host touches the machine (60 R390). -/
inductive HostMove where
  /-- `Boot(ROM, save?)` (70 R406, R409) -/
  | boot (image : CartImage)
  /-- `SetButton(b, pressed)` (60 R375) -/
  | setButton (button : Button) (pressed : Bool)
  /-- `ResumeFromStop()` (60 R322) -/
  | resumeFromStop
  /-- sample drain: the host takes the `n` oldest samples (60 R368) -/
  | drainSamples (n : Nat)
  /-- save (20 R97): the host has read the external RAM; the dirty flag is cleared when that succeeded -/
  | save (success : Bool)
deriving DecidableEq, Repr

/-- The state of the machine. The last three fields, and `cfg`, are the model's own: the counter of draws
(20 R71, log 6), the number of the boot whose unspecified contents are meant (70 R405, log 5), and the moves the
host makes before each coming step (10 R39, log 3). -/
structure State where
  cfg : Config
  cpu : Cpu
  mem : Stores
  cart : Cart
  mbc : MbcRegs
  timer : Timer
  video : Video
  audio : Audio
  buttons : Buttons
  draws : Nat
  boots : Nat
  hostPlan : List (List HostMove)
deriving DecidableEq, Repr

/-- The CPU after boot (70 R400, R401). -/
def Cpu.reset : Cpu where
  a := 0x01
  f := 0xB0
  b := 0x00
  c := 0x13
  d := 0x00
  e := 0xD8
  h := 0x01
  l := 0x4D
  sp := 0xFFFE
  pc := 0x0100
  ime := false
  eiPending := false
  runState := .running
  ticks := 0

/-- The bank controller after boot (70 R403). -/
def MbcRegs.reset : MbcRegs where
  ramEnable := false
  romBank := 1
  ramBank := 0
  mode := false
  dirty := false

/-- The timer after boot (70 R402). -/
def Timer.reset : Timer where
  localTicks := 0
  divAcc := 0
  timaAcc := 0

/-- The video unit after boot (70 R402). -/
def Video.reset : Video where
  localTicks := 0
  mode := .vblank
  modeTicks := 0
  notifications := 0

/-- A tone channel after boot (70 R402). -/
def Channel.reset : Channel where
  enabled := false
  volume := 0
  envTimer := 0
  length := 0
  freqTimer := 0
  dutyPos := 0

/-- The audio unit after boot (70 R402). -/
def Audio.reset : Audio where
  localTicks := 0
  fsAcc := 0
  fsStep := 0
  sampleAcc := 0
  ring := []
  ch1 := Channel.reset
  ch2 := Channel.reset
  sweepEnabled := false
  sweepTimer := 0
  shadowFreq := 0

/-- No button pressed (70 R402). -/
def Buttons.released : Buttons where
  right := false
  left := false
  up := false
  down := false
  a := false
  b := false
  select := false
  start := false

/-- The stores with nothing listed: the I/O page at its reset contents (70 R404), every RAM byte unspecified
(70 R405), `IE = 0x00`, and the ROM image of zero bytes (log 7). -/
def Stores.reset : Stores where
  rom := []
  vram := []
  wram := []
  eram := []
  oam := []
  io := []
  hram := []
  framebuffer := []
  ie := 0x00

/-- The machine right after reset (70 R400 to R405), at the default parameters, with the 32768-byte ROM-only
cartridge of zero bytes and no external RAM (log 7), and a host that does nothing (log 3). -/
def State.reset : State where
  cfg := Config.default
  cpu := Cpu.reset
  mem := Stores.reset
  cart := { mbc := .noMbc, romCode := 0, ramCode := 0 }
  mbc := MbcRegs.reset
  timer := Timer.reset
  video := Video.reset
  audio := Audio.reset
  buttons := Buttons.released
  draws := 0
  boots := 0
  hostPlan := []

/-- What a bus access, and a handler made of bus accesses, gives: a value and the state after it, or a fatal stop
and the state at the stop, in which everything before the stop has taken effect (60 R300). -/
inductive Access (α : Type) where
  | ok (v : α) (s : State)
  | stop (info : Fault) (s : State)
deriving DecidableEq, Repr

/-- What a meaning answers. -/
abbrev Answer := Host.Outcome State Fault Refusal

end Sys2Proof.Machine
end

