-- ==== Sys2Proof/Machine/Cells.lean ====
section
/-! DEFINITION. The cells of the stores and the bytes of the I/O page, read and written in the state, with the
names of the I/O registers (10 R31, R32). -/
namespace Sys2Proof.Machine

/-- The cells of a store. -/
def Stores.get (m : Stores) : Store → Memory
  | .rom => m.rom
  | .vram => m.vram
  | .wram => m.wram
  | .eram => m.eram
  | .oam => m.oam
  | .io => m.io
  | .hram => m.hram
  | .framebuffer => m.framebuffer

/-- Replace the cells of a store. -/
def Stores.put (m : Stores) (st : Store) (cells : Memory) : Stores :=
  match st with
  | .rom => { m with rom := cells }
  | .vram => { m with vram := cells }
  | .wram => { m with wram := cells }
  | .eram => { m with eram := cells }
  | .oam => { m with oam := cells }
  | .io => { m with io := cells }
  | .hram => { m with hram := cells }
  | .framebuffer => { m with framebuffer := cells }

/-- The byte at an index of a store: the one the store holds, or the free value of 70 R405 (log 5). -/
def State.cell (s : State) (st : Store) (index : Nat) : Byte :=
  match Memory.read st (s.mem.get st) index with
  | some v => v
  | none => Config.ramInit s.boots st index

/-- Store a byte at an index of a store. -/
def State.setCell (s : State) (st : Store) (index : Nat) (v : Byte) : State :=
  { s with mem := s.mem.put st (Memory.write st (s.mem.get st) index v) }

/-- `IO[offset]` (10 R32). -/
def State.io (s : State) (offset : Nat) : Byte := s.cell .io offset

/-- `IO[offset] <- v`. -/
def State.setIo (s : State) (offset : Nat) (v : Byte) : State := s.setCell .io offset v

/-! ### The I/O registers by name: offsets from 0xFF00 (10 R32) -/

abbrev ioP1 : Nat := 0x00
abbrev ioSB : Nat := 0x01
abbrev ioSC : Nat := 0x02
abbrev ioDIV : Nat := 0x04
abbrev ioTIMA : Nat := 0x05
abbrev ioTMA : Nat := 0x06
abbrev ioTAC : Nat := 0x07
abbrev ioIF : Nat := 0x0F
abbrev ioNR10 : Nat := 0x10
abbrev ioNR11 : Nat := 0x11
abbrev ioNR12 : Nat := 0x12
abbrev ioNR13 : Nat := 0x13
abbrev ioNR14 : Nat := 0x14
abbrev ioNR21 : Nat := 0x16
abbrev ioNR22 : Nat := 0x17
abbrev ioNR23 : Nat := 0x18
abbrev ioNR24 : Nat := 0x19
abbrev ioNR50 : Nat := 0x24
abbrev ioNR51 : Nat := 0x25
abbrev ioNR52 : Nat := 0x26
abbrev ioLCDC : Nat := 0x40
abbrev ioSTAT : Nat := 0x41
abbrev ioSCY : Nat := 0x42
abbrev ioSCX : Nat := 0x43
abbrev ioLY : Nat := 0x44
abbrev ioLYC : Nat := 0x45
abbrev ioDMA : Nat := 0x46
abbrev ioBGP : Nat := 0x47
abbrev ioOBP0 : Nat := 0x48
abbrev ioOBP1 : Nat := 0x49
abbrev ioWY : Nat := 0x4A
abbrev ioWX : Nat := 0x4B

/-- The five interrupt lines in bit and priority order (60 R310). -/
inductive IrqLine where
  | vblank | lcdStatus | timer | serial | joypad
deriving DecidableEq, Repr

/-- The bit of a line in `IF` and `IE` (60 R310). -/
def IrqLine.bitNo : IrqLine → Nat
  | .vblank => 0
  | .lcdStatus => 1
  | .timer => 2
  | .serial => 3
  | .joypad => 4

/-- `1 << i` for a line. -/
def IrqLine.mask (i : IrqLine) : Byte := 1#8 <<< i.bitNo

/-- Request a line: `IF <- IF | (1 << i)` (60 R310). -/
def State.request (s : State) (i : IrqLine) : State := s.setIo ioIF (s.io ioIF ||| i.mask)

/-- Request a line when a condition holds. -/
def State.requestIf (s : State) (cond : Bool) (i : IrqLine) : State := if cond then s.request i else s

end Sys2Proof.Machine
end

