-- ==== Sys2Proof/Machine/Audio.lean ====
section
/-! DEFINITION. The audio unit (60 R360 to R369): channel clocks, sweep, trigger, frame sequencer, samples. -/
namespace Sys2Proof.Machine

/-- The two tone channels (60 R360). -/
inductive Chan where
  | one | two
deriving DecidableEq, Repr

/-- The I/O offset of register `NRck` of channel `c` (10 R32). -/
def nr (c : Chan) (k : Nat) : Nat :=
  match c with
  | .one => 0x10 + k
  | .two => 0x15 + k

/-- The state of a channel. -/
def State.chan (s : State) (c : Chan) : Channel :=
  match c with
  | .one => s.audio.ch1
  | .two => s.audio.ch2

/-- Replace the state of a channel. -/
def State.setChan (s : State) (c : Chan) (ch : Channel) : State :=
  match c with
  | .one => { s with audio := { s.audio with ch1 := ch } }
  | .two => { s with audio := { s.audio with ch2 := ch } }

/-- `freq(c) = (NRc4[2:0] << 8) | NRc3` (60 R360). -/
def State.freq (s : State) (c : Chan) : Nat := (s.io (nr c 4)).toNat % 8 * 256 + (s.io (nr c 3)).toNat

/-- The waveform period `(2048 - freq(c)) * 4` (60 R365). -/
def State.wavePeriod (s : State) (c : Chan) : Nat := (2048 - s.freq c) * 4

/-- NR52 bits 1:0 mirror the enable flags (60 R369; log 14). -/
def State.mirrorEnables (s : State) : State :=
  s.setIo ioNR52 ((s.io ioNR52 &&& 0xFC)
    ||| BitVec.ofNat 8 (2 * bitVal s.audio.ch2.enabled + bitVal s.audio.ch1.enabled))

/-- `Disable(c)` (60 R362). -/
def State.disable (s : State) (c : Chan) : State :=
  (s.setChan c { s.chan c with enabled := false }).mirrorEnables

/-- Length clock of a channel (60 R362). -/
def State.lengthClock (s : State) (c : Chan) : State :=
  let ch := s.chan c
  if bit (s.io (nr c 4)) 6 ∧ 0 < ch.length then
    let s1 := s.setChan c { ch with length := ch.length - 1 }
    if ch.length - 1 = 0 then s1.disable c else s1
  else s

/-- The volume after one envelope step in the direction of `NRc2[3]` (60 R363). -/
def envelopeVolume (up : Bool) (volume : Nat) : Nat :=
  if up then (if volume < 15 then volume + 1 else volume)
  else (if 0 < volume then volume - 1 else volume)

/-- Envelope clock of a channel (60 R363). -/
def State.envelopeClock (s : State) (c : Chan) : State :=
  let ch := s.chan c
  let p := (s.io (nr c 2)).toNat % 8
  if p = 0 then s
  else if ch.envTimer - 1 = 0 then
    s.setChan c { ch with envTimer := p, volume := envelopeVolume (bit (s.io (nr c 2)) 3) ch.volume }
  else s.setChan c { ch with envTimer := ch.envTimer - 1 }

/-- The value `SweepCalc` computes (60 R364). -/
def State.sweepValue (s : State) : Nat :=
  let shadow := s.audio.shadowFreq.toNat
  let d := shadow >>> ((s.io ioNR10).toNat % 8)
  if bit (s.io ioNR10) 3 then shadow - d else shadow + d

/-- The effect of `SweepCalc` (60 R364): an overflow of the 11-bit range disables channel 1. -/
def State.sweepCheck (s : State) : State := if s.sweepValue > 2047 then s.disable .one else s

/-- The sweep's reload value: `if p = 0 then 8 else p` with `p = NR10[6:4]` (60 R364). -/
def State.sweepReload (s : State) : Nat :=
  let p := (s.io ioNR10).toNat / 16 % 8
  if p = 0 then 8 else p

/-- Store a new sweep frequency in the shadow register, NR13 and NR14 (60 R364). -/
def State.storeSweep (s : State) (new : Nat) : State :=
  let s1 := { s with audio := { s.audio with shadowFreq := BitVec.ofNat 11 new } }
  let s2 := s1.setIo ioNR13 (BitVec.ofNat 8 new)
  s2.setIo ioNR14 ((s2.io ioNR14 &&& 0xF8) ||| BitVec.ofNat 8 (new / 256 % 8))

/-- What the sweep clock does when its timer runs out (60 R364). -/
def State.sweepExpire (s : State) : State :=
  let s1 := { s with audio := { s.audio with sweepTimer := s.sweepReload } }
  if s1.audio.sweepEnabled ∧ (s1.io ioNR10).toNat / 16 % 8 ≠ 0 then
    let new := s1.sweepValue
    let s2 := s1.sweepCheck
    if new ≤ 2047 ∧ (s2.io ioNR10).toNat % 8 ≠ 0 then (s2.storeSweep new).sweepCheck else s2
  else s1

/-- Sweep clock of channel 1 (60 R364). -/
def State.sweepClock (s : State) : State :=
  let s1 := { s with audio := { s.audio with sweepTimer := s.audio.sweepTimer - 1 } }
  if s1.audio.sweepTimer = 0 then s1.sweepExpire else s1

/-- Waveform clock of a channel (60 R365). -/
def State.waveClock (s : State) (c : Chan) : State :=
  let ch := s.chan c
  if ch.freqTimer - 1 = 0 then
    s.setChan c { ch with freqTimer := s.wavePeriod c, dutyPos := ch.dutyPos + 1 }
  else s.setChan c { ch with freqTimer := ch.freqTimer - 1 }

/-- What a trigger does to the channel itself (60 R366). -/
def State.triggerChannel (s : State) (c : Chan) : State :=
  let ch := s.chan c
  let nr2 := (s.io (nr c 2)).toNat
  s.setChan c { ch with
    enabled := true
    length := if ch.length = 0 then 64 else ch.length
    freqTimer := s.wavePeriod c
    envTimer := nr2 % 8
    volume := nr2 / 16 }

/-- What a trigger does to channel 1's sweep (60 R366). -/
def State.triggerSweep (s : State) : State :=
  let nr10 := (s.io ioNR10).toNat
  let s1 := { s with audio := { s.audio with
    shadowFreq := BitVec.ofNat 11 (s.freq .one)
    sweepTimer := s.sweepReload
    sweepEnabled := decide (nr10 / 16 % 8 ≠ 0) || decide (nr10 % 8 ≠ 0) } }
  if nr10 % 8 ≠ 0 then s1.sweepCheck else s1

/-- Trigger of a channel (60 R366), after the byte is stored. -/
def State.trigger (s : State) (c : Chan) : State :=
  match c with
  | .one => ((s.triggerChannel .one).triggerSweep).mirrorEnables
  | .two => (s.triggerChannel .two).mirrorEnables

/-- `length <- 64 - v[5:0]` (20 R78). -/
def State.loadLength (s : State) (c : Chan) (v : Byte) : State :=
  s.setChan c { s.chan c with length := 64 - v.toNat % 64 }

/-- `FrameStep(fs)` (60 R361). -/
def State.frameStep (s : State) (fs : Fin 8) : State :=
  match fs with
  | 0 | 4 => (s.lengthClock .one).lengthClock .two
  | 2 | 6 => ((s.lengthClock .one).lengthClock .two).sweepClock
  | 7 => (s.envelopeClock .one).envelopeClock .two
  | 1 | 3 | 5 => s

/-- The frame sequencer, each tick (60 R361). -/
def State.frameClock (s : State) : State :=
  if s.audio.fsAcc + 1 ≥ s.cfg.fsPeriod then
    let s1 := ({ s with audio := { s.audio with fsAcc := 0 } }).frameStep s.audio.fsStep
    { s1 with audio := { s1.audio with fsStep := s.audio.fsStep + 1 } }
  else { s with audio := { s.audio with fsAcc := s.audio.fsAcc + 1 } }

/-- The duty patterns (60 R365), indexed from the left. -/
def dutyBit (duty : Nat) (pos : Fin 8) : Bool :=
  match duty with
  | 0 => decide (pos = 7)
  | 1 => decide (pos = 0) || decide (pos = 7)
  | 2 => decide (pos = 0) || decide (5 ≤ pos)
  | _ => decide (1 ≤ pos) && decide (pos ≤ 6)

/-- `amp(c)` (60 R367). -/
def State.amp (s : State) (c : Chan) : Int :=
  let ch := s.chan c
  if ch.enabled then
    (if dutyBit ((s.io (nr c 1)).toNat / 64) ch.dutyPos then (ch.volume : Int) else -(ch.volume : Int))
  else 0

/-- `RingPush` (60 R368): bounded, the oldest sample overwritten when full. -/
def ringPush (capacity : Nat) (ring : List Byte) (v : Byte) : List Byte :=
  (ring ++ [v]).drop (ring.length + 1 - capacity)

/-- Sample generation, each tick (60 R368). -/
def State.sampleClock (s : State) : State :=
  match s.cfg.sampleOut with
  | none => s
  | some out =>
    if s.audio.sampleAcc + 1 ≥ out.period then
      { s with audio := { s.audio with
        sampleAcc := 0
        ring := ringPush out.capacity s.audio.ring
          (Config.mix (s.amp .one) (s.amp .two) (s.io ioNR50) (s.io ioNR51)) } }
    else { s with audio := { s.audio with sampleAcc := s.audio.sampleAcc + 1 } }

/-- `AudioStep()` (60 R360). -/
def State.audioStep (s : State) : State :=
  let s1 := { s with audio := { s.audio with localTicks := s.audio.localTicks + 1 } }
  (((s1.waveClock .one).waveClock .two).frameClock).sampleClock

end Sys2Proof.Machine
end

