-- ==== Sys2Proof/Machine/Timer.lean ====
section
/-! DEFINITION. The timer and divider (60 R330 to R333). -/
namespace Sys2Proof.Machine

/-- `TIMA_PERIOD[sel]` (60 R332). -/
def timaPeriod (k : Config) (sel : Nat) : Nat :=
  match sel with
  | 0 => k.timaPeriod0
  | 1 => k.timaPeriod1
  | 2 => k.timaPeriod2
  | _ => k.timaPeriod3

/-- The divider's tick (60 R331). -/
def State.dividerTick (s : State) : State :=
  if s.timer.divAcc + 1 ≥ s.cfg.divPeriod then
    let s1 := s.setIo ioDIV (s.io ioDIV + 1)
    { s1 with timer := { s1.timer with divAcc := 0 } }
  else { s with timer := { s.timer with divAcc := s.timer.divAcc + 1 } }

/-- An increment of TIMA: at 0xFF it reloads from TMA and requests the timer line (60 R332). -/
def State.timaIncrement (s : State) : State :=
  if s.io ioTIMA = 0xFF then (s.setIo ioTIMA (s.io ioTMA)).request .timer
  else s.setIo ioTIMA (s.io ioTIMA + 1)

/-- The programmable counter's tick (60 R332). -/
def State.counterTick (s : State) : State :=
  if bit (s.io ioTAC) 2 then
    if s.timer.timaAcc + 1 ≥ timaPeriod s.cfg ((s.io ioTAC).toNat % 4) then
      ({ s with timer := { s.timer with timaAcc := 0 } }).timaIncrement
    else { s with timer := { s.timer with timaAcc := s.timer.timaAcc + 1 } }
  else s

/-- `TimerStep()` (60 R330). -/
def State.timerStep (s : State) : State :=
  let s1 := { s with timer := { s.timer with localTicks := s.timer.localTicks + 1 } }
  s1.dividerTick.counterTick

end Sys2Proof.Machine
end

