-- ==== Sys2Proof/Machine/Video.lean ====
section
/-! DEFINITION. The video unit (60 R340 to R356): the mode cycle, the scanline compare, the composition of a line. -/
namespace Sys2Proof.Machine

/-! ### Composition of a scanline (60 R350 to R355) -/

/-- The byte of VRAM at a bus address in 0x8000 to 0x9FFF. -/
def State.vramAt (s : State) (addr : Nat) : Byte := s.cell .vram (addr - 0x8000)

/-- `TileAddr(t, sel)` (60 R351): unsigned index from 0x8000, or signed index from 0x9000. -/
def tileAddr (t : Byte) (sel : Bool) : Nat :=
  if sel then 0x8000 + t.toNat * 16 else ((0x9000 : Int) + signed8 t * 16).toNat

/-- `TilePixel(addr, r, c)` (60 R354): plane 0 is the byte at the lower address, `c = 0` the leftmost pixel. -/
def State.tilePixel (s : State) (addr r c : Nat) : Nat :=
  bitVal (bit (s.vramAt (addr + 2 * r + 1)) (7 - c)) * 2 + bitVal (bit (s.vramAt (addr + 2 * r)) (7 - c))

/-- `(palette >> (2 * ci)) & 3`. -/
def paletteShade (palette : Byte) (ci : Nat) : Nat := (palette.toNat >>> (2 * ci)) % 4

/-- A pixel of the background and window layers: its colour index and its shade (60 R350). -/
structure LayerPixel where
  ci : Nat
  shade : Nat
deriving DecidableEq, Repr

/-- The colour index at a point of a 32 by 32 tile map (60 R351, R352). -/
def State.mapPixel (s : State) (map : Nat) (sel : Bool) (px py : Nat) : Nat :=
  s.tilePixel (tileAddr (s.vramAt (map + py / 8 * 32 + px / 8)) sel) (py % 8) (px % 8)

/-- A colour index with its shade in the palette BGP. -/
def State.bgPixel (s : State) (ci : Nat) : LayerPixel := { ci := ci, shade := paletteShade (s.io ioBGP) ci }

/-- The background's pixel (60 R351). -/
def State.background (s : State) (ly x : Nat) : LayerPixel :=
  let lcdc := s.io ioLCDC
  if bit lcdc 0 then
    s.bgPixel (s.mapPixel (if bit lcdc 3 then 0x9C00 else 0x9800) (bit lcdc 4)
      ((x + (s.io ioSCX).toNat) % 256) ((ly + (s.io ioSCY).toNat) % 256))
  else { ci := 0, shade := 0 }

/-- `wsel` (60 R352): the addressing mode of the window layer. -/
def State.windowSelect (s : State) : Bool :=
  match s.cfg.windowTileMode with
  | .followLcdc => bit (s.io ioLCDC) 4
  | .unsigned => true
  | .signed => false

/-- The pixel after background and window (60 R351, R352). -/
def State.layerPixel (s : State) (ly x : Nat) : LayerPixel :=
  let lcdc := s.io ioLCDC
  let wy := (s.io ioWY).toNat
  let wx := (s.io ioWX).toNat
  if bit lcdc 5 ∧ wy ≤ ly ∧ wx ≤ x + 7 then
    s.bgPixel (s.mapPixel (if bit lcdc 6 then 0x9C00 else 0x9800) s.windowSelect (x + 7 - wx) (ly - wy))
  else s.background ly x

/-- An entry of the sprite table (60 R353). -/
structure Sprite where
  sy : Nat
  sx : Nat
  tile : Byte
  attr : Byte
deriving DecidableEq, Repr

/-- Entry `i` of the sprite table (60 R353). -/
def State.sprite (s : State) (i : Nat) : Sprite where
  sy := (s.cell .oam (4 * i)).toNat
  sx := (s.cell .oam (4 * i + 1)).toNat
  tile := s.cell .oam (4 * i + 2)
  attr := s.cell .oam (4 * i + 3)

/-- The height of sprites, 8 or 16 (60 R353). -/
def State.spriteHeight (s : State) : Nat := if bit (s.io ioLCDC) 2 then 16 else 8

/-- Whether an entry covers a scanline: `sy <= ly + 16 < sy + h` (60 R353). -/
def Sprite.covers (o : Sprite) (height ly : Nat) : Bool := decide (o.sy ≤ ly + 16) && decide (ly + 16 < o.sy + height)

/-- The entries selected for a scanline, in table order, none where LCDC bit 1 is clear (60 R353). -/
def State.selectedSprites (s : State) (ly : Nat) : List Sprite :=
  if bit (s.io ioLCDC) 1 then
    (((List.range 40).map s.sprite).filter (fun o => o.covers s.spriteHeight ly)).take s.cfg.maxSpritesPerLine
  else []

/-- The colour index of a selected entry at a pixel; 0 where the entry does not reach it (60 R353). -/
def State.spritePixel (s : State) (o : Sprite) (ly x : Nat) : Nat :=
  if o.sx ≤ x + 8 ∧ x + 8 - o.sx ≤ 7 then
    let h := s.spriteHeight
    let px := x + 8 - o.sx
    let row := if bit o.attr 6 then h - 1 - (ly + 16 - o.sy) else ly + 16 - o.sy
    let tl := if h = 16 then o.tile &&& 0xFE else o.tile
    let col := if bit o.attr 5 then 7 - px else px
    s.tilePixel (0x8000 + tl.toNat * 16) row col
  else 0

/-- The first entry whose pixel is not transparent (60 R353). -/
def State.spriteWinner (s : State) (sprites : List Sprite) (ly x : Nat) : Option Sprite :=
  sprites.find? (fun o => s.spritePixel o ly x != 0)

/-- `shade[x]` of a scanline, given the entries selected for it (60 R350 to R353). -/
def State.shade (s : State) (sprites : List Sprite) (ly x : Nat) : Nat :=
  let below := s.layerPixel ly x
  match s.spriteWinner sprites ly x with
  | some o =>
    if bit o.attr 7 = false ∨ below.ci = 0 then
      paletteShade (s.io (if bit o.attr 4 then ioOBP1 else ioOBP0)) (s.spritePixel o ly x)
    else below.shade
  | none => below.shade

/-- Four pixels of a scanline, the first in the least significant bits (60 R355). -/
def State.packedPixels (s : State) (sprites : List Sprite) (ly k : Nat) : Byte :=
  BitVec.ofNat 8 (s.shade sprites ly (4 * k) + 4 * s.shade sprites ly (4 * k + 1)
    + 16 * s.shade sprites ly (4 * k + 2) + 64 * s.shade sprites ly (4 * k + 3))

/-- Store the first `count` of the 40 framebuffer bytes of a scanline (60 R355). -/
def State.storePixels (s : State) (sprites : List Sprite) (ly : Nat) : Nat → State
  | 0 => s
  | count + 1 =>
    (s.storePixels sprites ly count).setCell .framebuffer (ly * 40 + count) (s.packedPixels sprites ly count)

/-- `RenderLine(ly)` (60 R350), for a visible scanline (log 15). -/
def State.renderLine (s : State) (ly : Nat) : State :=
  if ly < 144 then s.storePixels (s.selectedSprites ly) ly 40 else s

/-! ### The mode cycle (60 R340 to R349) -/

/-- The STAT code of a mode (60 R340). -/
def VideoMode.code : VideoMode → Byte
  | .hblank => 0
  | .vblank => 1
  | .oamSearch => 2
  | .transfer => 3

/-- `SetMode(m)` (60 R342). -/
def State.setMode (s : State) (m : VideoMode) : State :=
  let s1 := { s with video := { s.video with mode := m } }
  s1.setIo ioSTAT ((s1.io ioSTAT &&& 0xFC) ||| m.code)

/-- `SetLY(v)` (60 R346). -/
def State.setLy (s : State) (v : Byte) : State :=
  let s1 := s.setIo ioLY v
  if v = s1.io ioLYC then
    let s2 := s1.setIo ioSTAT (s1.io ioSTAT ||| 0x04)
    s2.requestIf (bit (s2.io ioSTAT) 6) .lcdStatus
  else s1.setIo ioSTAT (s1.io ioSTAT &&& 0xFB)

/-- `mode_ticks <- 0`. -/
def State.clearModeTicks (s : State) : State := { s with video := { s.video with modeTicks := 0 } }

/-- Entry of a mode whose STAT enable bit may request the LCD-status line (60 R348). -/
def State.enterMode (s : State) (m : VideoMode) (enableBit : Nat) : State :=
  let s1 := s.setMode m
  s1.requestIf (bit (s1.io ioSTAT) enableBit) .lcdStatus

/-- `VBlankNotify()` (60 R349): one more notification has been handed to the host. -/
def State.notifyVblank (s : State) : State :=
  { s with video := { s.video with notifications := s.video.notifications + 1 } }

/-- The entry to V-blank (60 R344). -/
def State.enterVblank (s : State) : State :=
  let s1 := ((s.setMode .vblank).request .vblank).notifyVblank
  s1.requestIf (bit (s1.io ioSTAT) 4) .lcdStatus

/-- The tick in OAM-search (60 R342). -/
def State.oamSearchTick (s : State) : State :=
  if s.video.modeTicks ≥ s.cfg.tOam then
    let s1 := s.clearModeTicks.setMode .transfer
    s1.renderLine (s1.io ioLY).toNat
  else s

/-- The tick in pixel-transfer (60 R343). -/
def State.transferTick (s : State) : State :=
  if s.video.modeTicks ≥ s.cfg.tXfer then s.clearModeTicks.enterMode .hblank 3 else s

/-- The tick in H-blank (60 R344). -/
def State.hblankTick (s : State) : State :=
  if s.video.modeTicks ≥ s.cfg.tHblank then
    let s1 := s.clearModeTicks.setLy (s.io ioLY + 1)
    if s1.io ioLY = 144 then s1.enterVblank else s1.enterMode .oamSearch 5
  else s

/-- The tick in V-blank (60 R345). -/
def State.vblankTick (s : State) : State :=
  if s.video.modeTicks ≥ s.cfg.tVblank then (s.clearModeTicks.setLy 0).enterMode .oamSearch 5
  else if s.video.modeTicks % s.cfg.vblankLineStep = 0 ∧ (s.io ioLY).toNat < 153 then s.setLy (s.io ioLY + 1)
  else s

/-- `VideoStep()` (60 R340). -/
def State.videoStep (s : State) : State :=
  let s1 := { s with video := { s.video with
    localTicks := s.video.localTicks + 1, modeTicks := s.video.modeTicks + 1 } }
  match s1.video.mode with
  | .oamSearch => s1.oamSearchTick
  | .transfer => s1.transferTick
  | .hblank => s1.hblankTick
  | .vblank => s1.vblankTick

end Sys2Proof.Machine
end

