-- ==== Sys2Proof/Machine/Devices.lean ====
section
/-! DEFINITION. The synchronization of the devices to the CPU's tick count (60 R323). -/
namespace Sys2Proof.Machine

/-- Run a device step `n` times. -/
def iterate (f : State → State) : Nat → State → State
  | 0, s => s
  | n + 1, s => iterate f n (f s)

/-- `Timer.Sync(target)` (60 R323): steps until the local tick count has caught up. -/
def State.syncTimer (s : State) (target : Nat) : State :=
  iterate State.timerStep (target - s.timer.localTicks) s

/-- `Video.Sync(target)` (60 R323). -/
def State.syncVideo (s : State) (target : Nat) : State :=
  iterate State.videoStep (target - s.video.localTicks) s

/-- `Audio.Sync(target)` (60 R323). -/
def State.syncAudio (s : State) (target : Nat) : State :=
  iterate State.audioStep (target - s.audio.localTicks) s

/-- `SyncDevices()` (60 R323): timer, video, audio, in that order. -/
def State.syncDevices (s : State) : State :=
  ((s.syncTimer s.cpu.ticks).syncVideo s.cpu.ticks).syncAudio s.cpu.ticks

end Sys2Proof.Machine
end

