-- ==== Sys2Proof/Machine/Cartridge.lean ====
section
/-! DEFINITION. The cartridge: ROM reads through the bank controller, external RAM, bank controller register
writes (20 R64 to R68, R90 to R101). -/
namespace Sys2Proof.Machine

/-- The bytes of external RAM (20 R92). -/
def Cart.ramSize (c : Cart) : Nat := ramSizeOfCode c.ramCode

/-- The number of 0x4000-byte ROM banks, `2 << c` (20 R92). -/
def Cart.romBanks (c : Cart) : Nat := 2 <<< c.romCode

/-- The bank shown at 0x4000 to 0x7FFF: 1 without a bank controller (20 R65, R93), else `rom_bank mod (2 << c)`
(20 R95). -/
def State.effectiveBank (s : State) : Nat :=
  match s.cart.mbc with
  | .noMbc => 1
  | .mbc1 | .independent => s.mbc.romBank.toNat % s.cart.romBanks

/-- The byte of external RAM that a bus address in 0xA000 to 0xBFFF reaches, given the RAM size is not zero:
`none` when the bank controller has it disabled (20 R68, R96). -/
def State.eramIndex (s : State) (addr : Word) : Option Nat :=
  match s.cart.mbc with
  | .noMbc => some ((addr.toNat - 0xA000) % s.cart.ramSize)
  | .mbc1 | .independent =>
    if s.mbc.ramEnable then some ((s.mbc.ramBank.toNat * 0x2000 + (addr.toNat - 0xA000)) % s.cart.ramSize)
    else none

/-- The RAM-enable test of 20 R94: `(v & 0x0F) = 0x0A`. -/
def enablesRam (v : Byte) : Bool := v &&& 0x0F == 0x0A

/-- `if low = 0 then low <- 1` (20 R94, R95). -/
def redirectZero (low : BitVec 7) : BitVec 7 := if low = 0 then 1 else low

/-- A write to an MBC1 register window (20 R94). -/
def MbcRegs.writeMbc1 (m : MbcRegs) (addr : Word) (v : Byte) : MbcRegs :=
  if addr.toNat < 0x2000 then { m with ramEnable := enablesRam v }
  else if addr.toNat < 0x4000 then
    { m with romBank := (m.romBank &&& 0x60) ||| redirectZero ((v &&& 0x1F).setWidth 7) }
  else if addr.toNat < 0x6000 then
    if m.mode then { m with ramBank := (v &&& 0x03).setWidth 2 }
    else { m with romBank := (m.romBank &&& 0x1F) ||| ((v &&& 0x03).setWidth 7 <<< 5) }
  else { m with mode := bit v 0 }

/-- A write to a register window of the independent-register variant (20 R98, log 18). -/
def MbcRegs.writeIndependent (m : MbcRegs) (addr : Word) (v : Byte) : MbcRegs :=
  if addr.toNat < 0x2000 then { m with ramEnable := enablesRam v }
  else if addr.toNat < 0x4000 then { m with romBank := redirectZero ((v &&& 0x7F).setWidth 7) }
  else if addr.toNat < 0x6000 then { m with ramBank := (v &&& 0x03).setWidth 2 }
  else m

/-- A write to 0x0000 to 0x7FFF: a bank controller register write, or nothing; never a change of the ROM (20 R66). -/
def State.writeRomSpace (s : State) (addr : Word) (v : Byte) : State :=
  match s.cart.mbc with
  | .noMbc => s
  | .mbc1 => { s with mbc := s.mbc.writeMbc1 addr v }
  | .independent => { s with mbc := s.mbc.writeIndependent addr v }

/-- A write to backed external RAM: the cell and the dirty flag, or nothing when disabled (20 R68, R96, R97). -/
def State.writeEram (s : State) (addr : Word) (v : Byte) : State :=
  match s.eramIndex addr with
  | some index => let s1 := s.setCell .eram index v; { s1 with mbc := { s1.mbc with dirty := true } }
  | none => s

/-- A read of backed external RAM: the cell, or 0xFF when disabled (20 R68, R96). -/
def State.readEram (s : State) (addr : Word) : Byte :=
  match s.eramIndex addr with
  | some index => s.cell .eram index
  | none => 0xFF

end Sys2Proof.Machine
end

