-- ==== Sys2Proof/Machine/Joypad.lean ====
section
/-! DEFINITION. The joypad: the shaped read of P1 (20 R74) and the host's button move (60 R375). -/
namespace Sys2Proof.Machine

/-- `Right | Left<<1 | Up<<2 | Down<<3` (20 R74). -/
def Buttons.directions (b : Buttons) : Byte :=
  BitVec.ofNat 8 (bitVal b.right + 2 * bitVal b.left + 4 * bitVal b.up + 8 * bitVal b.down)

/-- `A | B<<1 | Select<<2 | Start<<3` (20 R74). -/
def Buttons.actions (b : Buttons) : Byte :=
  BitVec.ofNat 8 (bitVal b.a + 2 * bitVal b.b + 4 * bitVal b.select + 8 * bitVal b.start)

/-- The shaped read of P1 from the stored byte and the buttons (20 R74). -/
def shapeP1 (stored : Byte) (buttons : Buttons) : Byte :=
  let lo0 : Byte := 0x0F
  let lo1 := if bit stored 4 then lo0 else lo0 &&& ~~~buttons.directions
  let lo2 := if bit stored 5 then lo1 else lo1 &&& ~~~buttons.actions
  0xC0 ||| (stored &&& 0x30) ||| lo2

/-- Whether a button is pressed. -/
def Buttons.get (b : Buttons) : Button → Bool
  | .right => b.right
  | .left => b.left
  | .up => b.up
  | .down => b.down
  | .a => b.a
  | .b => b.b
  | .select => b.select
  | .start => b.start

/-- Set one button. -/
def Buttons.set (b : Buttons) (name : Button) (pressed : Bool) : Buttons :=
  match name with
  | .right => { b with right := pressed }
  | .left => { b with left := pressed }
  | .up => { b with up := pressed }
  | .down => { b with down := pressed }
  | .a => { b with a := pressed }
  | .b => { b with b := pressed }
  | .select => { b with select := pressed }
  | .start => { b with start := pressed }

/-- The P1 bit that selects a button's group when it is 0 (60 R375). -/
def Button.selectBit : Button → Nat
  | .right | .left | .up | .down => 4
  | .a | .b | .select | .start => 5

/-- `SetButton(b, pressed)` (60 R375). -/
def State.setButton (s : State) (name : Button) (pressed : Bool) : State :=
  let old := s.buttons.get name
  let s1 := { s with buttons := s.buttons.set name pressed }
  s1.requestIf (!old && pressed && !(bit (s1.io ioP1) name.selectBit)) .joypad

end Sys2Proof.Machine
end

