-- ==== Sys2Proof/Machine/Bus.lean ====
section
/-! DEFINITION. The bus: the address map, byte reads and byte writes, the write effects of the I/O page and the
DMA copy (20 R60 to R85, R101). -/
namespace Sys2Proof.Machine

/-- The regions of 20 R61. -/
inductive Region where
  | romFixed | romSwitched | vram | eram | wram | echo | oam | unusable | io | hram | ie
deriving DecidableEq, Repr

/-- The region an address belongs to (20 R61): the partition is total. -/
def regionOf (addr : Word) : Region :=
  let n := addr.toNat
  if n < 0x4000 then .romFixed
  else if n < 0x8000 then .romSwitched
  else if n < 0xA000 then .vram
  else if n < 0xC000 then .eram
  else if n < 0xE000 then .wram
  else if n < 0xFE00 then .echo
  else if n < 0xFEA0 then .oam
  else if n < 0xFF00 then .unusable
  else if n < 0xFF80 then .io
  else if n < 0xFFFF then .hram
  else .ie

/-- Whether a bank answers for an address: every region but external RAM on a cartridge without any (20 R60, R101). -/
def State.backed (s : State) (addr : Word) : Bool :=
  match regionOf addr with
  | .eram => decide (s.cart.ramSize ≠ 0)
  | _ => true

/-- The value of a read of the unusable region (20 R71): the configured byte, or the next draw. -/
def State.unusableValue (s : State) : Byte :=
  match s.cfg.unusableRead with
  | some v => v
  | none => Config.unusableDraw s.draws

/-- The byte a read of a backed address returns (20 R62, R64 to R74). -/
def State.busValue (s : State) (addr : Word) : Byte :=
  let n := addr.toNat
  match regionOf addr with
  | .romFixed => s.cell .rom n
  | .romSwitched => s.cell .rom (s.effectiveBank * 0x4000 + (n - 0x4000))
  | .vram => s.cell .vram (n - 0x8000)
  | .eram => s.readEram addr
  | .wram => s.cell .wram (n - 0xC000)
  | .echo => s.cell .wram (n - 0xE000)
  | .oam => s.cell .oam (n - 0xFE00)
  | .unusable => s.unusableValue
  | .io => if n = 0xFF00 then shapeP1 (s.io ioP1) s.buttons else s.io (n - 0xFF00)
  | .hram => s.cell .hram (n - 0xFF80)
  | .ie => s.mem.ie

/-- The state after a read. A read changes nothing (20 R62); the model's draw counter moves past a draw, so that
the next read of the unusable region draws afresh (20 R71, log 6). -/
def State.afterRead (s : State) (addr : Word) : State :=
  match regionOf addr, s.cfg.unusableRead with
  | .unusable, none => { s with draws := s.draws + 1 }
  | _, _ => s

/-- `MemRead(addr, 1)` (20 R62, R101). -/
def readByte (addr : Word) (s : State) : Access Byte :=
  if s.backed addr then .ok (s.busValue addr) (s.afterRead addr) else .stop (.invalidBankDispatch addr) s

/-- A write to an I/O byte other than the DMA register (20 R73 to R79). -/
def State.writeIo (s : State) (offset : Nat) (v : Byte) : State :=
  match offset with
  | 0x04 => let s1 := s.setIo ioDIV 0; { s1 with timer := { s1.timer with divAcc := 0 } }
  | 0x11 => (s.setIo ioNR11 v).loadLength .one v
  | 0x14 => if bit v 7 then (s.setIo ioNR14 v).trigger .one else s.setIo ioNR14 v
  | 0x16 => (s.setIo ioNR21 v).loadLength .two v
  | 0x19 => if bit v 7 then (s.setIo ioNR24 v).trigger .two else s.setIo ioNR24 v
  | 0x26 => s.setIo ioNR52 ((v &&& 0xF0) ||| (s.io ioNR52 &&& 0x0F))
  | 0x41 => s.setIo ioSTAT ((v &&& 0xF8) ||| (s.io ioSTAT &&& 0x07))
  | 0x44 => s
  | _ => s.setIo offset v

/-- A write to a backed address other than the DMA register: exactly the effects its region's rule lists (20 R63). -/
def State.busStore (s : State) (addr : Word) (v : Byte) : State :=
  let n := addr.toNat
  match regionOf addr with
  | .romFixed | .romSwitched => s.writeRomSpace addr v
  | .vram => s.setCell .vram (n - 0x8000) v
  | .eram => s.writeEram addr v
  | .wram => s.setCell .wram (n - 0xC000) v
  | .echo => s.setCell .wram (n - 0xE000) v
  | .oam => s.setCell .oam (n - 0xFE00) v
  | .unusable => s
  | .io => s.writeIo (n - 0xFF00) v
  | .hram => s.setCell .hram (n - 0xFF80) v
  | .ie => { s with mem := { s.mem with ie := v } }

/-- `OAM[i] <- MemRead((page << 8) + i, 1)` for `count` bytes from `i` on, in rising order (20 R80). -/
def dmaCopy (page : Byte) : (count i : Nat) → State → Access Unit
  | 0, _, s => .ok () s
  | count + 1, i, s =>
    match readByte (wordOf page 0 + BitVec.ofNat 16 i) s with
    | .ok v s1 => dmaCopy page count (i + 1) (s1.setCell .oam i v)
    | .stop info s1 => .stop info s1

/-- A write to the DMA register (20 R80): the byte is stored, then the copy runs. -/
def writeDma (v : Byte) (s : State) : Access Unit := dmaCopy v s.cfg.dmaLength 0 (s.setIo ioDMA v)

/-- `MemWrite(addr, 1, v)` (20 R63, R101). -/
def writeByte (addr : Word) (v : Byte) (s : State) : Access Unit :=
  if s.backed addr then
    if addr = 0xFF46 then writeDma v s else .ok () (s.busStore addr v)
  else .stop (.invalidBankDispatch addr) s

end Sys2Proof.Machine
end

