-- ==== Sys2Proof/Machine/Flags.lean ====
section
/-! DEFINITION. The four flags, the byte `F` they make, and every flag computation of the instruction set (10 R22 to
R25, 42 R200, 43 R230, 44 R241 to R255). -/
namespace Sys2Proof.Machine

/-- The flags (10 R23). -/
structure Flags where
  z : Bool
  n : Bool
  h : Bool
  c : Bool
deriving DecidableEq, Repr

/-- The byte `F` of four flags: bits 7, 6, 5, 4, and a zero low nibble (10 R22, R23). -/
def Flags.toByte (f : Flags) : Byte :=
  BitVec.ofNat 8 (128 * bitVal f.z + 64 * bitVal f.n + 32 * bitVal f.h + 16 * bitVal f.c)

/-- The flags of a byte `F` (10 R23). -/
def flagsOf (f : Byte) : Flags where
  z := bit f 7
  n := bit f 6
  h := bit f 5
  c := bit f 4

/-! ### 8-bit addition and subtraction (42 R200) -/

/-- The result of an addition with carry-in (42 R200). -/
def addResult (a v : Byte) (cin : Bool) : Byte := BitVec.ofNat 8 (a.toNat + v.toNat + bitVal cin)

/-- The flags of an addition: the true carries out of bit 3 and bit 7, carry-in included (42 R200, 90 C4). -/
def addFlags (a v : Byte) (cin : Bool) : Flags where
  z := decide (addResult a v cin = 0)
  n := false
  h := decide (a.toNat % 16 + v.toNat % 16 + bitVal cin > 0x0F)
  c := decide (a.toNat + v.toNat + bitVal cin > 0xFF)

/-- The result of a subtraction with borrow-in (42 R200). -/
def subResult (a v : Byte) (cin : Bool) : Byte :=
  BitVec.ofInt 8 ((a.toNat : Int) - (v.toNat : Int) - (bitVal cin : Int))

/-- The flags of a subtraction: the true borrows into bit 3 and bit 7, borrow-in included (42 R200, 90 C4). -/
def subFlags (a v : Byte) (cin : Bool) : Flags where
  z := decide (subResult a v cin = 0)
  n := true
  h := decide (a.toNat % 16 < v.toNat % 16 + bitVal cin)
  c := decide (a.toNat < v.toNat + bitVal cin)

/-! ### The eight two-operand operations (42 R201 to R208) -/

/-- The carry-in of an operation: `F.C` for `ADC` and `SBC`, 0 otherwise (42 R200). -/
def aluCarryIn (op : AluOp) (carry : Bool) : Bool :=
  match op with
  | .adc | .sbc => carry
  | .add | .sub | .and | .xor | .or | .cp => false

/-- The value an operation leaves in `A`; `CP` leaves the old one (42 R208). -/
def aluResult (op : AluOp) (a v : Byte) (carry : Bool) : Byte :=
  match op with
  | .add | .adc => addResult a v (aluCarryIn op carry)
  | .sub | .sbc => subResult a v (aluCarryIn op carry)
  | .and => a &&& v
  | .xor => a ^^^ v
  | .or => a ||| v
  | .cp => a

/-- The flags of an operation (42 R201 to R208). -/
def aluFlags (op : AluOp) (a v : Byte) (carry : Bool) : Flags :=
  match op with
  | .add | .adc => addFlags a v (aluCarryIn op carry)
  | .sub | .sbc | .cp => subFlags a v (aluCarryIn op carry)
  | .and => { z := decide (a &&& v = 0), n := false, h := true, c := false }
  | .xor => { z := decide (a ^^^ v = 0), n := false, h := false, c := false }
  | .or => { z := decide (a ||| v = 0), n := false, h := false, c := false }

/-! ### Increment and decrement (42 R209 to R212) -/

/-- The flags of an increment of `o`; the carry is kept (42 R209). -/
def incFlags (o : Byte) (old : Flags) : Flags where
  z := decide (o + 1 = 0)
  n := false
  h := decide (o &&& 0x0F = 0x0F)
  c := old.c

/-- The flags of a decrement of `o`; the carry is kept (42 R211). -/
def decFlags (o : Byte) (old : Flags) : Flags where
  z := decide (o - 1 = 0)
  n := true
  h := decide (o &&& 0x0F = 0x00)
  c := old.c

/-! ### Decimal adjust (42 R213) -/

/-- The lower correction of `DAA`: 0x06 or nothing (42 R213). -/
def daaLow (a : Byte) (old : Flags) : Nat :=
  if old.h = true ∨ (old.n = false ∧ a.toNat % 16 > 0x09) then 0x06 else 0

/-- Whether `DAA` applies the upper correction 0x60 (42 R213). -/
def daaHigh (a : Byte) (old : Flags) : Bool :=
  old.c || (!old.n && decide (a.toNat > 0x99))

/-- The correction `adj` of `DAA` (42 R213). -/
def daaAdjust (a : Byte) (old : Flags) : Nat := daaLow a old + (if daaHigh a old then 0x60 else 0)

/-- The result of `DAA` (42 R213). -/
def daaResult (a : Byte) (old : Flags) : Byte :=
  if old.n then BitVec.ofInt 8 ((a.toNat : Int) - (daaAdjust a old : Int))
  else BitVec.ofNat 8 (a.toNat + daaAdjust a old)

/-- The flags of `DAA` (42 R213): N kept, H cleared, C set by the upper correction of an addition and otherwise kept. -/
def daaFlags (a : Byte) (old : Flags) : Flags where
  z := decide (daaResult a old = 0)
  n := old.n
  h := false
  c := if old.n then old.c else daaHigh a old

/-! ### 16-bit arithmetic (43 R230, R233) -/

/-- The flags of `ADD HL,rp` (43 R230): Z kept, carries out of bit 11 and bit 15. -/
def addHlFlags (h v : Word) (old : Flags) : Flags where
  z := old.z
  n := false
  h := decide (h.toNat % 4096 + v.toNat % 4096 > 0x0FFF)
  c := decide (h.toNat + v.toNat > 0xFFFF)

/-- The flags of `SP + e8` (43 R233, 41 R183): carries of the unsigned addition of the low byte of `SP` and the
operand byte. -/
def spOffsetFlags (sp : Word) (n8 : Byte) : Flags where
  z := false
  n := false
  h := decide (sp.toNat % 16 + n8.toNat % 16 > 0x0F)
  c := decide (sp.toNat % 256 + n8.toNat > 0xFF)

/-! ### Rotates and shifts (44 R241 to R252) -/

/-- The result of a rotate, shift or swap of `v` with old carry `c` (44 R245 to R252). -/
def rotResult (op : RotOp) (v : Byte) (c : Bool) : Byte :=
  let top : Byte := 0x80
  match op with
  | .rlc => (v <<< 1) ||| (if bit v 7 then 1 else 0)
  | .rrc => (v >>> 1) ||| (if bit v 0 then top else 0)
  | .rl => (v <<< 1) ||| (if c then 1 else 0)
  | .rr => (v >>> 1) ||| (if c then top else 0)
  | .sla => v <<< 1
  | .sra => (v >>> 1) ||| (v &&& top)
  | .swap => (v <<< 4) ||| (v >>> 4)
  | .srl => v >>> 1

/-- The bit an operation shifts out; `SWAP` shifts none out (44 R245 to R252). -/
def rotCarry (op : RotOp) (v : Byte) : Bool :=
  match op with
  | .rlc | .rl | .sla => bit v 7
  | .rrc | .rr | .sra | .srl => bit v 0
  | .swap => false

/-- The flags of a prefixed rotate, shift or swap (44 R245 to R252). -/
def rotFlags (op : RotOp) (v : Byte) (c : Bool) : Flags where
  z := decide (rotResult op v c = 0)
  n := false
  h := false
  c := rotCarry op v

/-- The flags of an accumulator rotate: Z always 0 (44 R241 to R244). -/
def rotAccFlags (op : RotOp) (v : Byte) : Flags where
  z := false
  n := false
  h := false
  c := rotCarry op v

/-! ### Bit operations (44 R253 to R255) -/

/-- The flags of `BIT b` (44 R253): Z the complement of the tested bit, C kept. -/
def bitFlags (b : Nat) (v : Byte) (old : Flags) : Flags where
  z := !(bit v b)
  n := false
  h := true
  c := old.c

/-- `v & ~(1 << b)` (44 R254). -/
def resBit (b : Nat) (v : Byte) : Byte := v &&& ~~~(1#8 <<< b)

/-- `v | (1 << b)` (44 R255). -/
def setBit (b : Nat) (v : Byte) : Byte := v ||| (1#8 <<< b)

/-! ### Conditions (30 R125, 45 R270) -/

/-- `cond(i)` of 45 R270. -/
def condHolds (cc : Cond) (f : Flags) : Bool :=
  match cc with
  | .nz => !f.z
  | .z => f.z
  | .nc => !f.c
  | .c => f.c

end Sys2Proof.Machine
end

