-- ==== Sys2Proof/Machine/Ops.lean ====
section
/-! DEFINITION. The named operations over registers and memory: register access, sequencing of bus accesses, the
stack, fatal stops, the frame every instruction runs in (30 R121), interrupt dispatch and the return from it. -/
namespace Sys2Proof.Machine

/-! ### Registers (00 R8) -/

/-- Replace the CPU. -/
def State.withCpu (s : State) (c : Cpu) : State := { s with cpu := c }

/-- An 8-bit register of the table `r8[]` (30 R124). -/
def Cpu.reg (c : Cpu) : R8 → Byte
  | .b => c.b
  | .c => c.c
  | .d => c.d
  | .e => c.e
  | .h => c.h
  | .l => c.l
  | .a => c.a

/-- Write an 8-bit register. -/
def Cpu.setReg (c : Cpu) (r : R8) (v : Byte) : Cpu :=
  match r with
  | .b => { c with b := v }
  | .c => { c with c := v }
  | .d => { c with d := v }
  | .e => { c with e := v }
  | .h => { c with h := v }
  | .l => { c with l := v }
  | .a => { c with a := v }

/-- The view `AF` (10 R21). -/
def Cpu.af (c : Cpu) : Word := wordOf c.a c.f
/-- The view `BC` (10 R21). -/
def Cpu.bc (c : Cpu) : Word := wordOf c.b c.c
/-- The view `DE` (10 R21). -/
def Cpu.de (c : Cpu) : Word := wordOf c.d c.e
/-- The view `HL` (10 R21). -/
def Cpu.hl (c : Cpu) : Word := wordOf c.h c.l

/-- `HL <- v` (00 R8). -/
def Cpu.setHl (c : Cpu) (v : Word) : Cpu := { c with h := hiByte v, l := loByte v }

/-- `rp[p]` (30 R124). -/
def Cpu.rp (c : Cpu) : Rp → Word
  | .bc => c.bc
  | .de => c.de
  | .hl => c.hl
  | .sp => c.sp

/-- `rp[p] <- v`. -/
def Cpu.setRp (c : Cpu) (p : Rp) (v : Word) : Cpu :=
  match p with
  | .bc => { c with b := hiByte v, c := loByte v }
  | .de => { c with d := hiByte v, e := loByte v }
  | .hl => c.setHl v
  | .sp => { c with sp := v }

/-- `rp2[p]` (30 R124). -/
def Cpu.rp2 (c : Cpu) : Rp2 → Word
  | .bc => c.bc
  | .de => c.de
  | .hl => c.hl
  | .af => c.af

/-- `rp2[p] <- v`; a write of `AF` clears the low nibble of `F` (00 R8, 10 R22, 41 R186). -/
def Cpu.setRp2 (c : Cpu) (p : Rp2) (v : Word) : Cpu :=
  match p with
  | .bc => { c with b := hiByte v, c := loByte v }
  | .de => { c with d := hiByte v, e := loByte v }
  | .hl => c.setHl v
  | .af => { c with a := hiByte v, f := loByte v &&& 0xF0 }

/-- The flags (10 R23). -/
def Cpu.flags (c : Cpu) : Flags := flagsOf c.f

/-- Write all four flags; the low nibble of `F` becomes 0 (10 R22, log 13). -/
def Cpu.setFlags (c : Cpu) (f : Flags) : Cpu := { c with f := f.toByte }

/-- `PC <- v`. -/
def Cpu.setPc (c : Cpu) (v : Word) : Cpu := { c with pc := v }

/-- `SP <- v`. -/
def Cpu.setSp (c : Cpu) (v : Word) : Cpu := { c with sp := v }

/-- `ticks <- ticks + k`. -/
def Cpu.addTicks (c : Cpu) (k : Nat) : Cpu := { c with ticks := c.ticks + k }

/-- Change the CPU of a state. -/
def State.onCpu (s : State) (f : Cpu → Cpu) : State := { s with cpu := f s.cpu }

/-! ### Sequencing and fatal stops -/

/-- `raise` (00 R11, 60 R300): the state at the stop becomes the faulted state. -/
def State.raise (s : State) (info : Fault) : State := s.onCpu fun c => { c with runState := .faulted info }

/-- Go on after an access, unless it stopped. -/
def Access.andThen {α β : Type} (x : Access α) (f : α → State → Access β) : Access β :=
  match x with
  | .ok v s => f v s
  | .stop info s => .stop info s

/-- The machine's next state after a handler: the state it left, or the faulted state (60 R300, log 1). -/
def Access.answer {α : Type} (x : Access α) : Answer :=
  match x with
  | .ok _ s => .next s
  | .stop info s => .next (s.raise info)

/-- Whether a run is over (60 R300). -/
def State.isFaulted (s : State) : Bool :=
  match s.cpu.runState with
  | .faulted _ => true
  | .running | .halted | .stopped => false

/-! ### The stack (00 R10) -/

/-- `Push16(v)` (00 R10): high byte first, at the higher address. -/
def push16 (v : Word) (s : State) : Access Unit :=
  let s1 := s.onCpu fun c => c.setSp (c.sp - 1)
  (writeByte s1.cpu.sp (hiByte v) s1).andThen fun _ s2 =>
    let s3 := s2.onCpu fun c => c.setSp (c.sp - 1)
    writeByte s3.cpu.sp (loByte v) s3

/-- `Pop16()` (00 R10): low byte first. -/
def pop16 (s : State) : Access Word :=
  (readByte s.cpu.sp s).andThen fun lo s1 =>
    let s2 := s1.onCpu fun c => c.setSp (c.sp + 1)
    (readByte s2.cpu.sp s2).andThen fun hi s3 =>
      .ok (wordOf hi lo) (s3.onCpu fun c => c.setSp (c.sp + 1))

/-- `MemWrite(addr, 2, v)` (00 R9): low byte first, at the lower address. -/
def writeWord (addr v : Word) (s : State) : Access Unit :=
  (writeByte addr (loByte v) s).andThen fun _ s1 => writeByte (addr + 1) (hiByte v) s1

/-! ### The frame of an instruction (30 R121) -/

/-- Run a handler as an instruction of `len` bytes and `ticks` base ticks (30 R121): `PC` is advanced past the
instruction, the handler runs, and its duration is added unless it stopped. -/
def runOp (len : Nat) (ticks : Nat) (handler : State → Access Unit) (s : State) : Answer :=
  ((handler (s.onCpu fun c => c.setPc (c.pc + BitVec.ofNat 16 len))).andThen fun _ s1 =>
    .ok () (s1.onCpu fun c => c.addTicks ticks)).answer

/-- A handler that changes the CPU only. -/
def cpuOnly (f : Cpu → Cpu) (s : State) : Access Unit := .ok () (s.onCpu f)

/-- A handler that acts only when a condition holds, and then adds the extra ticks of the taken case (30 R129, 45 R270). -/
def whenTaken (cc : Cond) (extra : Nat) (handler : State → Access Unit) (s : State) : Access Unit :=
  if condHolds cc s.cpu.flags then
    (handler s).andThen fun _ s1 => .ok () (s1.onCpu fun c => c.addTicks extra)
  else .ok () s

/-- `raise UnimplementedInstruction(op, pc0)` (46 R296): `PC` stays, nothing else changes. -/
def raiseUnimplemented (op : IllegalOp) (s : State) : Answer :=
  .next (s.raise (.unimplementedInstruction op.byte s.cpu.pc))

/-! ### Taking an interrupt and returning from it (60 R312, R313, 45 R280) -/

/-- `IE & IF & 0x1F` (60 R312). -/
def State.pending (s : State) : Byte := s.mem.ie &&& s.io ioIF &&& 0x1F

/-- The least line whose bit is set (60 R312, R314). -/
def firstLine (pend : Byte) : Option IrqLine :=
  if bit pend 0 then some .vblank
  else if bit pend 1 then some .lcdStatus
  else if bit pend 2 then some .timer
  else if bit pend 3 then some .serial
  else if bit pend 4 then some .joypad
  else none

/-- `0x0040 + 8 * i` (60 R311). -/
def IrqLine.vector (i : IrqLine) : Word := 0x0040#16 + 8#16 * BitVec.ofNat 16 i.bitNo

/-- `if run_state = Halted then run_state <- Running`; no other run state changes (60 R313). -/
def Cpu.wake (c : Cpu) : Cpu := { c with runState := if c.runState = .halted then .running else c.runState }

/-- Dispatch of a line (60 R313), in the order given: wake, push `PC`, clear the request, clear `IME`, go to the
vector, add the dispatch cost. A stop in the push leaves `IF`, `IME` and `PC` as they were (60 R305). -/
def dispatch (i : IrqLine) (s : State) : Access Unit :=
  let s1 := s.onCpu Cpu.wake
  (push16 s1.cpu.pc s1).andThen fun _ s2 =>
    let s3 := s2.setIo ioIF (s2.io ioIF &&& ~~~i.mask)
    .ok () (s3.onCpu fun c =>
      { c with ime := false, pc := i.vector, ticks := c.ticks + s3.cfg.intDispatchTicks })

/-- `TestInterrupts()` (60 R312). -/
def testInterrupts (s : State) : Access Unit :=
  if s.cpu.ime then
    match firstLine s.pending with
    | some i => dispatch i s
    | none => .ok () s
  else .ok () s

/-- The return from a handler (45 R280): pop `PC`, set `IME` at once. -/
def returnFromInterrupt (s : State) : Access Unit :=
  (pop16 s).andThen fun v s1 => .ok () (s1.onCpu fun c => { c with pc := v, ime := true, eiPending := false })

end Sys2Proof.Machine
end

