-- ==== Sys2Proof/Machine/Operands.lean ====
section
/-! DEFINITION. The operand forms: registers, the byte at an address held in a pair, the byte at an absolute or
high-page address, read, written, and read then written (20 R84, R85; 30 R124, R128). -/
namespace Sys2Proof.Machine

/-- Load `A` from an address. -/
def loadA (addr : Word) (s : State) : Access Unit :=
  (readByte addr s).andThen fun v s1 => .ok () (s1.onCpu fun c => { c with a := v })

/-- Store `A` at an address. -/
def storeA (addr : Word) (s : State) : Access Unit := writeByte addr s.cpu.a s

/-- A handler on the value of the byte at `HL`, read only (20 R85). -/
def withHl (f : Byte → Cpu → Cpu) (s : State) : Access Unit :=
  (readByte s.cpu.hl s).andThen fun v s1 => .ok () (s1.onCpu (f v))

/-- A read-modify-write of the byte at `HL` (20 R85): one read, one write of the new value, then the flags, both
computed from the value read and the old flags. -/
def modifyHl (result : Byte → Flags → Byte) (flags : Byte → Flags → Option Flags) (s : State) : Access Unit :=
  let old := s.cpu.flags
  (readByte s.cpu.hl s).andThen fun v s1 =>
    (writeByte s1.cpu.hl (result v old) s1).andThen fun _ s2 =>
      match flags v old with
      | some f => .ok () (s2.onCpu fun c => c.setFlags f)
      | none => .ok () s2

/-- A read-modify-write of a register, the flags as in `modifyHl`. -/
def modifyReg (r : R8) (result : Byte → Flags → Byte) (flags : Byte → Flags → Option Flags) (c : Cpu) : Cpu :=
  let v := c.reg r
  let c1 := c.setReg r (result v c.flags)
  match flags v c.flags with
  | some f => c1.setFlags f
  | none => c1

/-- The operation `alu[y]` on `A` and a value (42 R200). -/
def aluOnA (op : AluOp) (v : Byte) (c : Cpu) : Cpu :=
  { c with a := aluResult op c.a v c.flags.c, f := (aluFlags op c.a v c.flags.c).toByte }

end Sys2Proof.Machine
end

