-- ==== Sys2Proof/Machine/Alu16.lean ====
section
/-! DEFINITION. The 16-bit arithmetic instructions (43 R230 to R233). -/
namespace Sys2Proof.Machine

/-- `ADD HL,rp` (43 R230). -/
def addHlPair (p : Rp) (s : State) : Answer :=
  runOp 1 8 (cpuOnly fun c => (c.setHl (c.hl + c.rp p)).setFlags (addHlFlags c.hl (c.rp p) c.flags)) s

/-- `INC rp` (43 R231). -/
def incPair (p : Rp) (s : State) : Answer := runOp 1 8 (cpuOnly fun c => c.setRp p (c.rp p + 1)) s

/-- `DEC rp` (43 R232). -/
def decPair (p : Rp) (s : State) : Answer := runOp 1 8 (cpuOnly fun c => c.setRp p (c.rp p - 1)) s

/-- `ADD HL,BC` (0x09; 43 R230). -/
def execAdd_HL_BC (s : State) : Answer := addHlPair .bc s

/-- `ADD HL,DE` (0x19; 43 R230). -/
def execAdd_HL_DE (s : State) : Answer := addHlPair .de s

/-- `ADD HL,HL` (0x29; 43 R230). -/
def execAdd_HL_HL (s : State) : Answer := addHlPair .hl s

/-- `ADD HL,SP` (0x39; 43 R230). -/
def execAdd_HL_SP (s : State) : Answer := addHlPair .sp s

/-- `INC BC` (0x03; 43 R231). -/
def execInc_BC (s : State) : Answer := incPair .bc s

/-- `INC DE` (0x13; 43 R231). -/
def execInc_DE (s : State) : Answer := incPair .de s

/-- `INC HL` (0x23; 43 R231). -/
def execInc_HL (s : State) : Answer := incPair .hl s

/-- `INC SP` (0x33; 43 R231). -/
def execInc_SP (s : State) : Answer := incPair .sp s

/-- `DEC BC` (0x0B; 43 R232). -/
def execDec_BC (s : State) : Answer := decPair .bc s

/-- `DEC DE` (0x1B; 43 R232). -/
def execDec_DE (s : State) : Answer := decPair .de s

/-- `DEC HL` (0x2B; 43 R232). -/
def execDec_HL (s : State) : Answer := decPair .hl s

/-- `DEC SP` (0x3B; 43 R232). -/
def execDec_SP (s : State) : Answer := decPair .sp s

/-- `ADD SP,e8` (0xE8; 43 R233). -/
def execAdd_SP_e8 (n8 : Byte) (s : State) : Answer := 
  runOp 2 16 (cpuOnly fun c => (c.setSp (c.sp + sext16 n8)).setFlags (spOffsetFlags c.sp n8)) s

end Sys2Proof.Machine
end

