-- ==== Sys2Proof/Machine/Alu8.lean ====
section
/-! DEFINITION. The 8-bit arithmetic and logic instructions (42 R200 to R217). -/
namespace Sys2Proof.Machine

/-- `alu[y] r8[z]` (42 R200, register form). -/
def aluReg (op : AluOp) (r : R8) (s : State) : Answer := runOp 1 4 (cpuOnly fun c => aluOnA op (c.reg r) c) s

/-- `alu[y] (HL)` (42 R200, memory form). -/
def aluMem (op : AluOp) (s : State) : Answer := runOp 1 8 (withHl (aluOnA op)) s

/-- `alu[y] d8` (42 R200, immediate form). -/
def aluByte (op : AluOp) (n8 : Byte) (s : State) : Answer := runOp 2 8 (cpuOnly (aluOnA op n8)) s

/-- `INC r` (42 R209). -/
def incReg (r : R8) (s : State) : Answer :=
  runOp 1 4 (cpuOnly (modifyReg r (fun o _ => o + 1) (fun o old => some (incFlags o old)))) s

/-- `DEC r` (42 R211). -/
def decReg (r : R8) (s : State) : Answer :=
  runOp 1 4 (cpuOnly (modifyReg r (fun o _ => o - 1) (fun o old => some (decFlags o old)))) s

/-- `ADD A,B` (0x80; 42 R201). -/
def execAdd_A_B (s : State) : Answer := aluReg .add .b s

/-- `ADD A,C` (0x81; 42 R201). -/
def execAdd_A_C (s : State) : Answer := aluReg .add .c s

/-- `ADD A,D` (0x82; 42 R201). -/
def execAdd_A_D (s : State) : Answer := aluReg .add .d s

/-- `ADD A,E` (0x83; 42 R201). -/
def execAdd_A_E (s : State) : Answer := aluReg .add .e s

/-- `ADD A,H` (0x84; 42 R201). -/
def execAdd_A_H (s : State) : Answer := aluReg .add .h s

/-- `ADD A,L` (0x85; 42 R201). -/
def execAdd_A_L (s : State) : Answer := aluReg .add .l s

/-- `ADD A,A` (0x87; 42 R201). -/
def execAdd_A_A (s : State) : Answer := aluReg .add .a s

/-- `ADD A,(HL)` (0x86; 42 R201). -/
def execAdd_A_atHL (s : State) : Answer := aluMem .add s

/-- `ADD A,d8` (0xC6; 42 R201). -/
def execAdd_A_d8 (n8 : Byte) (s : State) : Answer := aluByte .add n8 s

/-- `ADC A,B` (0x88; 42 R202). -/
def execAdc_A_B (s : State) : Answer := aluReg .adc .b s

/-- `ADC A,C` (0x89; 42 R202). -/
def execAdc_A_C (s : State) : Answer := aluReg .adc .c s

/-- `ADC A,D` (0x8A; 42 R202). -/
def execAdc_A_D (s : State) : Answer := aluReg .adc .d s

/-- `ADC A,E` (0x8B; 42 R202). -/
def execAdc_A_E (s : State) : Answer := aluReg .adc .e s

/-- `ADC A,H` (0x8C; 42 R202). -/
def execAdc_A_H (s : State) : Answer := aluReg .adc .h s

/-- `ADC A,L` (0x8D; 42 R202). -/
def execAdc_A_L (s : State) : Answer := aluReg .adc .l s

/-- `ADC A,A` (0x8F; 42 R202). -/
def execAdc_A_A (s : State) : Answer := aluReg .adc .a s

/-- `ADC A,(HL)` (0x8E; 42 R202). -/
def execAdc_A_atHL (s : State) : Answer := aluMem .adc s

/-- `ADC A,d8` (0xCE; 42 R202). -/
def execAdc_A_d8 (n8 : Byte) (s : State) : Answer := aluByte .adc n8 s

/-- `SUB B` (0x90; 42 R203). -/
def execSub_B (s : State) : Answer := aluReg .sub .b s

/-- `SUB C` (0x91; 42 R203). -/
def execSub_C (s : State) : Answer := aluReg .sub .c s

/-- `SUB D` (0x92; 42 R203). -/
def execSub_D (s : State) : Answer := aluReg .sub .d s

/-- `SUB E` (0x93; 42 R203). -/
def execSub_E (s : State) : Answer := aluReg .sub .e s

/-- `SUB H` (0x94; 42 R203). -/
def execSub_H (s : State) : Answer := aluReg .sub .h s

/-- `SUB L` (0x95; 42 R203). -/
def execSub_L (s : State) : Answer := aluReg .sub .l s

/-- `SUB A` (0x97; 42 R203). -/
def execSub_A (s : State) : Answer := aluReg .sub .a s

/-- `SUB (HL)` (0x96; 42 R203). -/
def execSub_atHL (s : State) : Answer := aluMem .sub s

/-- `SUB d8` (0xD6; 42 R203). -/
def execSub_d8 (n8 : Byte) (s : State) : Answer := aluByte .sub n8 s

/-- `SBC A,B` (0x98; 42 R204). -/
def execSbc_A_B (s : State) : Answer := aluReg .sbc .b s

/-- `SBC A,C` (0x99; 42 R204). -/
def execSbc_A_C (s : State) : Answer := aluReg .sbc .c s

/-- `SBC A,D` (0x9A; 42 R204). -/
def execSbc_A_D (s : State) : Answer := aluReg .sbc .d s

/-- `SBC A,E` (0x9B; 42 R204). -/
def execSbc_A_E (s : State) : Answer := aluReg .sbc .e s

/-- `SBC A,H` (0x9C; 42 R204). -/
def execSbc_A_H (s : State) : Answer := aluReg .sbc .h s

/-- `SBC A,L` (0x9D; 42 R204). -/
def execSbc_A_L (s : State) : Answer := aluReg .sbc .l s

/-- `SBC A,A` (0x9F; 42 R204). -/
def execSbc_A_A (s : State) : Answer := aluReg .sbc .a s

/-- `SBC A,(HL)` (0x9E; 42 R204). -/
def execSbc_A_atHL (s : State) : Answer := aluMem .sbc s

/-- `SBC A,d8` (0xDE; 42 R204). -/
def execSbc_A_d8 (n8 : Byte) (s : State) : Answer := aluByte .sbc n8 s

/-- `AND B` (0xA0; 42 R205). -/
def execAnd_B (s : State) : Answer := aluReg .and .b s

/-- `AND C` (0xA1; 42 R205). -/
def execAnd_C (s : State) : Answer := aluReg .and .c s

/-- `AND D` (0xA2; 42 R205). -/
def execAnd_D (s : State) : Answer := aluReg .and .d s

/-- `AND E` (0xA3; 42 R205). -/
def execAnd_E (s : State) : Answer := aluReg .and .e s

/-- `AND H` (0xA4; 42 R205). -/
def execAnd_H (s : State) : Answer := aluReg .and .h s

/-- `AND L` (0xA5; 42 R205). -/
def execAnd_L (s : State) : Answer := aluReg .and .l s

/-- `AND A` (0xA7; 42 R205). -/
def execAnd_A (s : State) : Answer := aluReg .and .a s

/-- `AND (HL)` (0xA6; 42 R205). -/
def execAnd_atHL (s : State) : Answer := aluMem .and s

/-- `AND d8` (0xE6; 42 R205). -/
def execAnd_d8 (n8 : Byte) (s : State) : Answer := aluByte .and n8 s

/-- `XOR B` (0xA8; 42 R206). -/
def execXor_B (s : State) : Answer := aluReg .xor .b s

/-- `XOR C` (0xA9; 42 R206). -/
def execXor_C (s : State) : Answer := aluReg .xor .c s

/-- `XOR D` (0xAA; 42 R206). -/
def execXor_D (s : State) : Answer := aluReg .xor .d s

/-- `XOR E` (0xAB; 42 R206). -/
def execXor_E (s : State) : Answer := aluReg .xor .e s

/-- `XOR H` (0xAC; 42 R206). -/
def execXor_H (s : State) : Answer := aluReg .xor .h s

/-- `XOR L` (0xAD; 42 R206). -/
def execXor_L (s : State) : Answer := aluReg .xor .l s

/-- `XOR A` (0xAF; 42 R206). -/
def execXor_A (s : State) : Answer := aluReg .xor .a s

/-- `XOR (HL)` (0xAE; 42 R206). -/
def execXor_atHL (s : State) : Answer := aluMem .xor s

/-- `XOR d8` (0xEE; 42 R206). -/
def execXor_d8 (n8 : Byte) (s : State) : Answer := aluByte .xor n8 s

/-- `OR B` (0xB0; 42 R207). -/
def execOr_B (s : State) : Answer := aluReg .or .b s

/-- `OR C` (0xB1; 42 R207). -/
def execOr_C (s : State) : Answer := aluReg .or .c s

/-- `OR D` (0xB2; 42 R207). -/
def execOr_D (s : State) : Answer := aluReg .or .d s

/-- `OR E` (0xB3; 42 R207). -/
def execOr_E (s : State) : Answer := aluReg .or .e s

/-- `OR H` (0xB4; 42 R207). -/
def execOr_H (s : State) : Answer := aluReg .or .h s

/-- `OR L` (0xB5; 42 R207). -/
def execOr_L (s : State) : Answer := aluReg .or .l s

/-- `OR A` (0xB7; 42 R207). -/
def execOr_A (s : State) : Answer := aluReg .or .a s

/-- `OR (HL)` (0xB6; 42 R207). -/
def execOr_atHL (s : State) : Answer := aluMem .or s

/-- `OR d8` (0xF6; 42 R207). -/
def execOr_d8 (n8 : Byte) (s : State) : Answer := aluByte .or n8 s

/-- `CP B` (0xB8; 42 R208). -/
def execCp_B (s : State) : Answer := aluReg .cp .b s

/-- `CP C` (0xB9; 42 R208). -/
def execCp_C (s : State) : Answer := aluReg .cp .c s

/-- `CP D` (0xBA; 42 R208). -/
def execCp_D (s : State) : Answer := aluReg .cp .d s

/-- `CP E` (0xBB; 42 R208). -/
def execCp_E (s : State) : Answer := aluReg .cp .e s

/-- `CP H` (0xBC; 42 R208). -/
def execCp_H (s : State) : Answer := aluReg .cp .h s

/-- `CP L` (0xBD; 42 R208). -/
def execCp_L (s : State) : Answer := aluReg .cp .l s

/-- `CP A` (0xBF; 42 R208). -/
def execCp_A (s : State) : Answer := aluReg .cp .a s

/-- `CP (HL)` (0xBE; 42 R208). -/
def execCp_atHL (s : State) : Answer := aluMem .cp s

/-- `CP d8` (0xFE; 42 R208). -/
def execCp_d8 (n8 : Byte) (s : State) : Answer := aluByte .cp n8 s

/-- `INC B` (0x04; 42 R209). -/
def execInc_B (s : State) : Answer := incReg .b s

/-- `INC C` (0x0C; 42 R209). -/
def execInc_C (s : State) : Answer := incReg .c s

/-- `INC D` (0x14; 42 R209). -/
def execInc_D (s : State) : Answer := incReg .d s

/-- `INC E` (0x1C; 42 R209). -/
def execInc_E (s : State) : Answer := incReg .e s

/-- `INC H` (0x24; 42 R209). -/
def execInc_H (s : State) : Answer := incReg .h s

/-- `INC L` (0x2C; 42 R209). -/
def execInc_L (s : State) : Answer := incReg .l s

/-- `INC A` (0x3C; 42 R209). -/
def execInc_A (s : State) : Answer := incReg .a s

/-- `DEC B` (0x05; 42 R211). -/
def execDec_B (s : State) : Answer := decReg .b s

/-- `DEC C` (0x0D; 42 R211). -/
def execDec_C (s : State) : Answer := decReg .c s

/-- `DEC D` (0x15; 42 R211). -/
def execDec_D (s : State) : Answer := decReg .d s

/-- `DEC E` (0x1D; 42 R211). -/
def execDec_E (s : State) : Answer := decReg .e s

/-- `DEC H` (0x25; 42 R211). -/
def execDec_H (s : State) : Answer := decReg .h s

/-- `DEC L` (0x2D; 42 R211). -/
def execDec_L (s : State) : Answer := decReg .l s

/-- `DEC A` (0x3D; 42 R211). -/
def execDec_A (s : State) : Answer := decReg .a s

/-- `INC (HL)` (0x34; 42 R210). -/
def execInc_atHL (s : State) : Answer := 
  runOp 1 12 (modifyHl (fun o _ => o + 1) (fun o old => some (incFlags o old))) s

/-- `DEC (HL)` (0x35; 42 R212). -/
def execDec_atHL (s : State) : Answer := 
  runOp 1 12 (modifyHl (fun o _ => o - 1) (fun o old => some (decFlags o old))) s

/-- `DAA` (0x27; 42 R213). -/
def execDaa (s : State) : Answer := 
  runOp 1 4 (cpuOnly fun c => { c with a := daaResult c.a c.flags, f := (daaFlags c.a c.flags).toByte }) s

/-- `CPL` (0x2F; 42 R214). -/
def execCpl (s : State) : Answer := 
  runOp 1 4 (cpuOnly fun c => { c with a := ~~~c.a, f := ({ c.flags with n := true, h := true } : Flags).toByte }) s

/-- `SCF` (0x37; 42 R215). -/
def execScf (s : State) : Answer := 
  runOp 1 4 (cpuOnly fun c => c.setFlags { c.flags with n := false, h := false, c := true }) s

/-- `CCF` (0x3F; 42 R216). -/
def execCcf (s : State) : Answer := 
  runOp 1 4 (cpuOnly fun c => c.setFlags { c.flags with n := false, h := false, c := !c.flags.c }) s

end Sys2Proof.Machine
end

