-- ==== Sys2Proof/Machine/BitOps.lean ====
section
/-! DEFINITION. The bit instructions (44 R253 to R255). -/
namespace Sys2Proof.Machine

/-- `BIT b` on a register (44 R253). -/
def bitReg (b : Oct) (r : R8) (s : State) : Answer :=
  runOp 2 8 (cpuOnly fun c => c.setFlags (bitFlags b.toNat (c.reg r) c.flags)) s

/-- `BIT b,(HL)` (44 R253): read only. -/
def bitMem (b : Oct) (s : State) : Answer :=
  runOp 2 12 (withHl fun v c => c.setFlags (bitFlags b.toNat v c.flags)) s

/-- `RES b` on a register (44 R254). -/
def resReg (b : Oct) (r : R8) (s : State) : Answer :=
  runOp 2 8 (cpuOnly (modifyReg r (fun v _ => resBit b.toNat v) (fun _ _ => none))) s

/-- `RES b,(HL)` (44 R254). -/
def resMem (b : Oct) (s : State) : Answer := runOp 2 16 (modifyHl (fun v _ => resBit b.toNat v) (fun _ _ => none)) s

/-- `SET b` on a register (44 R255). -/
def setReg (b : Oct) (r : R8) (s : State) : Answer :=
  runOp 2 8 (cpuOnly (modifyReg r (fun v _ => setBit b.toNat v) (fun _ _ => none))) s

/-- `SET b,(HL)` (44 R255). -/
def setMem (b : Oct) (s : State) : Answer := runOp 2 16 (modifyHl (fun v _ => setBit b.toNat v) (fun _ _ => none)) s

/-- `BIT 0,B` (0xCB 0x40; 44 R253). -/
def execBit_0_B (s : State) : Answer := bitReg .o0 .b s

/-- `BIT 0,C` (0xCB 0x41; 44 R253). -/
def execBit_0_C (s : State) : Answer := bitReg .o0 .c s

/-- `BIT 0,D` (0xCB 0x42; 44 R253). -/
def execBit_0_D (s : State) : Answer := bitReg .o0 .d s

/-- `BIT 0,E` (0xCB 0x43; 44 R253). -/
def execBit_0_E (s : State) : Answer := bitReg .o0 .e s

/-- `BIT 0,H` (0xCB 0x44; 44 R253). -/
def execBit_0_H (s : State) : Answer := bitReg .o0 .h s

/-- `BIT 0,L` (0xCB 0x45; 44 R253). -/
def execBit_0_L (s : State) : Answer := bitReg .o0 .l s

/-- `BIT 0,A` (0xCB 0x47; 44 R253). -/
def execBit_0_A (s : State) : Answer := bitReg .o0 .a s

/-- `BIT 0,(HL)` (0xCB 0x46; 44 R253). -/
def execBit_0_atHL (s : State) : Answer := bitMem .o0 s

/-- `BIT 1,B` (0xCB 0x48; 44 R253). -/
def execBit_1_B (s : State) : Answer := bitReg .o1 .b s

/-- `BIT 1,C` (0xCB 0x49; 44 R253). -/
def execBit_1_C (s : State) : Answer := bitReg .o1 .c s

/-- `BIT 1,D` (0xCB 0x4A; 44 R253). -/
def execBit_1_D (s : State) : Answer := bitReg .o1 .d s

/-- `BIT 1,E` (0xCB 0x4B; 44 R253). -/
def execBit_1_E (s : State) : Answer := bitReg .o1 .e s

/-- `BIT 1,H` (0xCB 0x4C; 44 R253). -/
def execBit_1_H (s : State) : Answer := bitReg .o1 .h s

/-- `BIT 1,L` (0xCB 0x4D; 44 R253). -/
def execBit_1_L (s : State) : Answer := bitReg .o1 .l s

/-- `BIT 1,A` (0xCB 0x4F; 44 R253). -/
def execBit_1_A (s : State) : Answer := bitReg .o1 .a s

/-- `BIT 1,(HL)` (0xCB 0x4E; 44 R253). -/
def execBit_1_atHL (s : State) : Answer := bitMem .o1 s

/-- `BIT 2,B` (0xCB 0x50; 44 R253). -/
def execBit_2_B (s : State) : Answer := bitReg .o2 .b s

/-- `BIT 2,C` (0xCB 0x51; 44 R253). -/
def execBit_2_C (s : State) : Answer := bitReg .o2 .c s

/-- `BIT 2,D` (0xCB 0x52; 44 R253). -/
def execBit_2_D (s : State) : Answer := bitReg .o2 .d s

/-- `BIT 2,E` (0xCB 0x53; 44 R253). -/
def execBit_2_E (s : State) : Answer := bitReg .o2 .e s

/-- `BIT 2,H` (0xCB 0x54; 44 R253). -/
def execBit_2_H (s : State) : Answer := bitReg .o2 .h s

/-- `BIT 2,L` (0xCB 0x55; 44 R253). -/
def execBit_2_L (s : State) : Answer := bitReg .o2 .l s

/-- `BIT 2,A` (0xCB 0x57; 44 R253). -/
def execBit_2_A (s : State) : Answer := bitReg .o2 .a s

/-- `BIT 2,(HL)` (0xCB 0x56; 44 R253). -/
def execBit_2_atHL (s : State) : Answer := bitMem .o2 s

/-- `BIT 3,B` (0xCB 0x58; 44 R253). -/
def execBit_3_B (s : State) : Answer := bitReg .o3 .b s

/-- `BIT 3,C` (0xCB 0x59; 44 R253). -/
def execBit_3_C (s : State) : Answer := bitReg .o3 .c s

/-- `BIT 3,D` (0xCB 0x5A; 44 R253). -/
def execBit_3_D (s : State) : Answer := bitReg .o3 .d s

/-- `BIT 3,E` (0xCB 0x5B; 44 R253). -/
def execBit_3_E (s : State) : Answer := bitReg .o3 .e s

/-- `BIT 3,H` (0xCB 0x5C; 44 R253). -/
def execBit_3_H (s : State) : Answer := bitReg .o3 .h s

/-- `BIT 3,L` (0xCB 0x5D; 44 R253). -/
def execBit_3_L (s : State) : Answer := bitReg .o3 .l s

/-- `BIT 3,A` (0xCB 0x5F; 44 R253). -/
def execBit_3_A (s : State) : Answer := bitReg .o3 .a s

/-- `BIT 3,(HL)` (0xCB 0x5E; 44 R253). -/
def execBit_3_atHL (s : State) : Answer := bitMem .o3 s

/-- `BIT 4,B` (0xCB 0x60; 44 R253). -/
def execBit_4_B (s : State) : Answer := bitReg .o4 .b s

/-- `BIT 4,C` (0xCB 0x61; 44 R253). -/
def execBit_4_C (s : State) : Answer := bitReg .o4 .c s

/-- `BIT 4,D` (0xCB 0x62; 44 R253). -/
def execBit_4_D (s : State) : Answer := bitReg .o4 .d s

/-- `BIT 4,E` (0xCB 0x63; 44 R253). -/
def execBit_4_E (s : State) : Answer := bitReg .o4 .e s

/-- `BIT 4,H` (0xCB 0x64; 44 R253). -/
def execBit_4_H (s : State) : Answer := bitReg .o4 .h s

/-- `BIT 4,L` (0xCB 0x65; 44 R253). -/
def execBit_4_L (s : State) : Answer := bitReg .o4 .l s

/-- `BIT 4,A` (0xCB 0x67; 44 R253). -/
def execBit_4_A (s : State) : Answer := bitReg .o4 .a s

/-- `BIT 4,(HL)` (0xCB 0x66; 44 R253). -/
def execBit_4_atHL (s : State) : Answer := bitMem .o4 s

/-- `BIT 5,B` (0xCB 0x68; 44 R253). -/
def execBit_5_B (s : State) : Answer := bitReg .o5 .b s

/-- `BIT 5,C` (0xCB 0x69; 44 R253). -/
def execBit_5_C (s : State) : Answer := bitReg .o5 .c s

/-- `BIT 5,D` (0xCB 0x6A; 44 R253). -/
def execBit_5_D (s : State) : Answer := bitReg .o5 .d s

/-- `BIT 5,E` (0xCB 0x6B; 44 R253). -/
def execBit_5_E (s : State) : Answer := bitReg .o5 .e s

/-- `BIT 5,H` (0xCB 0x6C; 44 R253). -/
def execBit_5_H (s : State) : Answer := bitReg .o5 .h s

/-- `BIT 5,L` (0xCB 0x6D; 44 R253). -/
def execBit_5_L (s : State) : Answer := bitReg .o5 .l s

/-- `BIT 5,A` (0xCB 0x6F; 44 R253). -/
def execBit_5_A (s : State) : Answer := bitReg .o5 .a s

/-- `BIT 5,(HL)` (0xCB 0x6E; 44 R253). -/
def execBit_5_atHL (s : State) : Answer := bitMem .o5 s

/-- `BIT 6,B` (0xCB 0x70; 44 R253). -/
def execBit_6_B (s : State) : Answer := bitReg .o6 .b s

/-- `BIT 6,C` (0xCB 0x71; 44 R253). -/
def execBit_6_C (s : State) : Answer := bitReg .o6 .c s

/-- `BIT 6,D` (0xCB 0x72; 44 R253). -/
def execBit_6_D (s : State) : Answer := bitReg .o6 .d s

/-- `BIT 6,E` (0xCB 0x73; 44 R253). -/
def execBit_6_E (s : State) : Answer := bitReg .o6 .e s

/-- `BIT 6,H` (0xCB 0x74; 44 R253). -/
def execBit_6_H (s : State) : Answer := bitReg .o6 .h s

/-- `BIT 6,L` (0xCB 0x75; 44 R253). -/
def execBit_6_L (s : State) : Answer := bitReg .o6 .l s

/-- `BIT 6,A` (0xCB 0x77; 44 R253). -/
def execBit_6_A (s : State) : Answer := bitReg .o6 .a s

/-- `BIT 6,(HL)` (0xCB 0x76; 44 R253). -/
def execBit_6_atHL (s : State) : Answer := bitMem .o6 s

/-- `BIT 7,B` (0xCB 0x78; 44 R253). -/
def execBit_7_B (s : State) : Answer := bitReg .o7 .b s

/-- `BIT 7,C` (0xCB 0x79; 44 R253). -/
def execBit_7_C (s : State) : Answer := bitReg .o7 .c s

/-- `BIT 7,D` (0xCB 0x7A; 44 R253). -/
def execBit_7_D (s : State) : Answer := bitReg .o7 .d s

/-- `BIT 7,E` (0xCB 0x7B; 44 R253). -/
def execBit_7_E (s : State) : Answer := bitReg .o7 .e s

/-- `BIT 7,H` (0xCB 0x7C; 44 R253). -/
def execBit_7_H (s : State) : Answer := bitReg .o7 .h s

/-- `BIT 7,L` (0xCB 0x7D; 44 R253). -/
def execBit_7_L (s : State) : Answer := bitReg .o7 .l s

/-- `BIT 7,A` (0xCB 0x7F; 44 R253). -/
def execBit_7_A (s : State) : Answer := bitReg .o7 .a s

/-- `BIT 7,(HL)` (0xCB 0x7E; 44 R253). -/
def execBit_7_atHL (s : State) : Answer := bitMem .o7 s

/-- `RES 0,B` (0xCB 0x80; 44 R254). -/
def execRes_0_B (s : State) : Answer := resReg .o0 .b s

/-- `RES 0,C` (0xCB 0x81; 44 R254). -/
def execRes_0_C (s : State) : Answer := resReg .o0 .c s

/-- `RES 0,D` (0xCB 0x82; 44 R254). -/
def execRes_0_D (s : State) : Answer := resReg .o0 .d s

/-- `RES 0,E` (0xCB 0x83; 44 R254). -/
def execRes_0_E (s : State) : Answer := resReg .o0 .e s

/-- `RES 0,H` (0xCB 0x84; 44 R254). -/
def execRes_0_H (s : State) : Answer := resReg .o0 .h s

/-- `RES 0,L` (0xCB 0x85; 44 R254). -/
def execRes_0_L (s : State) : Answer := resReg .o0 .l s

/-- `RES 0,A` (0xCB 0x87; 44 R254). -/
def execRes_0_A (s : State) : Answer := resReg .o0 .a s

/-- `RES 0,(HL)` (0xCB 0x86; 44 R254). -/
def execRes_0_atHL (s : State) : Answer := resMem .o0 s

/-- `RES 1,B` (0xCB 0x88; 44 R254). -/
def execRes_1_B (s : State) : Answer := resReg .o1 .b s

/-- `RES 1,C` (0xCB 0x89; 44 R254). -/
def execRes_1_C (s : State) : Answer := resReg .o1 .c s

/-- `RES 1,D` (0xCB 0x8A; 44 R254). -/
def execRes_1_D (s : State) : Answer := resReg .o1 .d s

/-- `RES 1,E` (0xCB 0x8B; 44 R254). -/
def execRes_1_E (s : State) : Answer := resReg .o1 .e s

/-- `RES 1,H` (0xCB 0x8C; 44 R254). -/
def execRes_1_H (s : State) : Answer := resReg .o1 .h s

/-- `RES 1,L` (0xCB 0x8D; 44 R254). -/
def execRes_1_L (s : State) : Answer := resReg .o1 .l s

/-- `RES 1,A` (0xCB 0x8F; 44 R254). -/
def execRes_1_A (s : State) : Answer := resReg .o1 .a s

/-- `RES 1,(HL)` (0xCB 0x8E; 44 R254). -/
def execRes_1_atHL (s : State) : Answer := resMem .o1 s

/-- `RES 2,B` (0xCB 0x90; 44 R254). -/
def execRes_2_B (s : State) : Answer := resReg .o2 .b s

/-- `RES 2,C` (0xCB 0x91; 44 R254). -/
def execRes_2_C (s : State) : Answer := resReg .o2 .c s

/-- `RES 2,D` (0xCB 0x92; 44 R254). -/
def execRes_2_D (s : State) : Answer := resReg .o2 .d s

/-- `RES 2,E` (0xCB 0x93; 44 R254). -/
def execRes_2_E (s : State) : Answer := resReg .o2 .e s

/-- `RES 2,H` (0xCB 0x94; 44 R254). -/
def execRes_2_H (s : State) : Answer := resReg .o2 .h s

/-- `RES 2,L` (0xCB 0x95; 44 R254). -/
def execRes_2_L (s : State) : Answer := resReg .o2 .l s

/-- `RES 2,A` (0xCB 0x97; 44 R254). -/
def execRes_2_A (s : State) : Answer := resReg .o2 .a s

/-- `RES 2,(HL)` (0xCB 0x96; 44 R254). -/
def execRes_2_atHL (s : State) : Answer := resMem .o2 s

/-- `RES 3,B` (0xCB 0x98; 44 R254). -/
def execRes_3_B (s : State) : Answer := resReg .o3 .b s

/-- `RES 3,C` (0xCB 0x99; 44 R254). -/
def execRes_3_C (s : State) : Answer := resReg .o3 .c s

/-- `RES 3,D` (0xCB 0x9A; 44 R254). -/
def execRes_3_D (s : State) : Answer := resReg .o3 .d s

/-- `RES 3,E` (0xCB 0x9B; 44 R254). -/
def execRes_3_E (s : State) : Answer := resReg .o3 .e s

/-- `RES 3,H` (0xCB 0x9C; 44 R254). -/
def execRes_3_H (s : State) : Answer := resReg .o3 .h s

/-- `RES 3,L` (0xCB 0x9D; 44 R254). -/
def execRes_3_L (s : State) : Answer := resReg .o3 .l s

/-- `RES 3,A` (0xCB 0x9F; 44 R254). -/
def execRes_3_A (s : State) : Answer := resReg .o3 .a s

/-- `RES 3,(HL)` (0xCB 0x9E; 44 R254). -/
def execRes_3_atHL (s : State) : Answer := resMem .o3 s

/-- `RES 4,B` (0xCB 0xA0; 44 R254). -/
def execRes_4_B (s : State) : Answer := resReg .o4 .b s

/-- `RES 4,C` (0xCB 0xA1; 44 R254). -/
def execRes_4_C (s : State) : Answer := resReg .o4 .c s

/-- `RES 4,D` (0xCB 0xA2; 44 R254). -/
def execRes_4_D (s : State) : Answer := resReg .o4 .d s

/-- `RES 4,E` (0xCB 0xA3; 44 R254). -/
def execRes_4_E (s : State) : Answer := resReg .o4 .e s

/-- `RES 4,H` (0xCB 0xA4; 44 R254). -/
def execRes_4_H (s : State) : Answer := resReg .o4 .h s

/-- `RES 4,L` (0xCB 0xA5; 44 R254). -/
def execRes_4_L (s : State) : Answer := resReg .o4 .l s

/-- `RES 4,A` (0xCB 0xA7; 44 R254). -/
def execRes_4_A (s : State) : Answer := resReg .o4 .a s

/-- `RES 4,(HL)` (0xCB 0xA6; 44 R254). -/
def execRes_4_atHL (s : State) : Answer := resMem .o4 s

/-- `RES 5,B` (0xCB 0xA8; 44 R254). -/
def execRes_5_B (s : State) : Answer := resReg .o5 .b s

/-- `RES 5,C` (0xCB 0xA9; 44 R254). -/
def execRes_5_C (s : State) : Answer := resReg .o5 .c s

/-- `RES 5,D` (0xCB 0xAA; 44 R254). -/
def execRes_5_D (s : State) : Answer := resReg .o5 .d s

/-- `RES 5,E` (0xCB 0xAB; 44 R254). -/
def execRes_5_E (s : State) : Answer := resReg .o5 .e s

/-- `RES 5,H` (0xCB 0xAC; 44 R254). -/
def execRes_5_H (s : State) : Answer := resReg .o5 .h s

/-- `RES 5,L` (0xCB 0xAD; 44 R254). -/
def execRes_5_L (s : State) : Answer := resReg .o5 .l s

/-- `RES 5,A` (0xCB 0xAF; 44 R254). -/
def execRes_5_A (s : State) : Answer := resReg .o5 .a s

/-- `RES 5,(HL)` (0xCB 0xAE; 44 R254). -/
def execRes_5_atHL (s : State) : Answer := resMem .o5 s

/-- `RES 6,B` (0xCB 0xB0; 44 R254). -/
def execRes_6_B (s : State) : Answer := resReg .o6 .b s

/-- `RES 6,C` (0xCB 0xB1; 44 R254). -/
def execRes_6_C (s : State) : Answer := resReg .o6 .c s

/-- `RES 6,D` (0xCB 0xB2; 44 R254). -/
def execRes_6_D (s : State) : Answer := resReg .o6 .d s

/-- `RES 6,E` (0xCB 0xB3; 44 R254). -/
def execRes_6_E (s : State) : Answer := resReg .o6 .e s

/-- `RES 6,H` (0xCB 0xB4; 44 R254). -/
def execRes_6_H (s : State) : Answer := resReg .o6 .h s

/-- `RES 6,L` (0xCB 0xB5; 44 R254). -/
def execRes_6_L (s : State) : Answer := resReg .o6 .l s

/-- `RES 6,A` (0xCB 0xB7; 44 R254). -/
def execRes_6_A (s : State) : Answer := resReg .o6 .a s

/-- `RES 6,(HL)` (0xCB 0xB6; 44 R254). -/
def execRes_6_atHL (s : State) : Answer := resMem .o6 s

/-- `RES 7,B` (0xCB 0xB8; 44 R254). -/
def execRes_7_B (s : State) : Answer := resReg .o7 .b s

/-- `RES 7,C` (0xCB 0xB9; 44 R254). -/
def execRes_7_C (s : State) : Answer := resReg .o7 .c s

/-- `RES 7,D` (0xCB 0xBA; 44 R254). -/
def execRes_7_D (s : State) : Answer := resReg .o7 .d s

/-- `RES 7,E` (0xCB 0xBB; 44 R254). -/
def execRes_7_E (s : State) : Answer := resReg .o7 .e s

/-- `RES 7,H` (0xCB 0xBC; 44 R254). -/
def execRes_7_H (s : State) : Answer := resReg .o7 .h s

/-- `RES 7,L` (0xCB 0xBD; 44 R254). -/
def execRes_7_L (s : State) : Answer := resReg .o7 .l s

/-- `RES 7,A` (0xCB 0xBF; 44 R254). -/
def execRes_7_A (s : State) : Answer := resReg .o7 .a s

/-- `RES 7,(HL)` (0xCB 0xBE; 44 R254). -/
def execRes_7_atHL (s : State) : Answer := resMem .o7 s

/-- `SET 0,B` (0xCB 0xC0; 44 R255). -/
def execSet_0_B (s : State) : Answer := setReg .o0 .b s

/-- `SET 0,C` (0xCB 0xC1; 44 R255). -/
def execSet_0_C (s : State) : Answer := setReg .o0 .c s

/-- `SET 0,D` (0xCB 0xC2; 44 R255). -/
def execSet_0_D (s : State) : Answer := setReg .o0 .d s

/-- `SET 0,E` (0xCB 0xC3; 44 R255). -/
def execSet_0_E (s : State) : Answer := setReg .o0 .e s

/-- `SET 0,H` (0xCB 0xC4; 44 R255). -/
def execSet_0_H (s : State) : Answer := setReg .o0 .h s

/-- `SET 0,L` (0xCB 0xC5; 44 R255). -/
def execSet_0_L (s : State) : Answer := setReg .o0 .l s

/-- `SET 0,A` (0xCB 0xC7; 44 R255). -/
def execSet_0_A (s : State) : Answer := setReg .o0 .a s

/-- `SET 0,(HL)` (0xCB 0xC6; 44 R255). -/
def execSet_0_atHL (s : State) : Answer := setMem .o0 s

/-- `SET 1,B` (0xCB 0xC8; 44 R255). -/
def execSet_1_B (s : State) : Answer := setReg .o1 .b s

/-- `SET 1,C` (0xCB 0xC9; 44 R255). -/
def execSet_1_C (s : State) : Answer := setReg .o1 .c s

/-- `SET 1,D` (0xCB 0xCA; 44 R255). -/
def execSet_1_D (s : State) : Answer := setReg .o1 .d s

/-- `SET 1,E` (0xCB 0xCB; 44 R255). -/
def execSet_1_E (s : State) : Answer := setReg .o1 .e s

/-- `SET 1,H` (0xCB 0xCC; 44 R255). -/
def execSet_1_H (s : State) : Answer := setReg .o1 .h s

/-- `SET 1,L` (0xCB 0xCD; 44 R255). -/
def execSet_1_L (s : State) : Answer := setReg .o1 .l s

/-- `SET 1,A` (0xCB 0xCF; 44 R255). -/
def execSet_1_A (s : State) : Answer := setReg .o1 .a s

/-- `SET 1,(HL)` (0xCB 0xCE; 44 R255). -/
def execSet_1_atHL (s : State) : Answer := setMem .o1 s

/-- `SET 2,B` (0xCB 0xD0; 44 R255). -/
def execSet_2_B (s : State) : Answer := setReg .o2 .b s

/-- `SET 2,C` (0xCB 0xD1; 44 R255). -/
def execSet_2_C (s : State) : Answer := setReg .o2 .c s

/-- `SET 2,D` (0xCB 0xD2; 44 R255). -/
def execSet_2_D (s : State) : Answer := setReg .o2 .d s

/-- `SET 2,E` (0xCB 0xD3; 44 R255). -/
def execSet_2_E (s : State) : Answer := setReg .o2 .e s

/-- `SET 2,H` (0xCB 0xD4; 44 R255). -/
def execSet_2_H (s : State) : Answer := setReg .o2 .h s

/-- `SET 2,L` (0xCB 0xD5; 44 R255). -/
def execSet_2_L (s : State) : Answer := setReg .o2 .l s

/-- `SET 2,A` (0xCB 0xD7; 44 R255). -/
def execSet_2_A (s : State) : Answer := setReg .o2 .a s

/-- `SET 2,(HL)` (0xCB 0xD6; 44 R255). -/
def execSet_2_atHL (s : State) : Answer := setMem .o2 s

/-- `SET 3,B` (0xCB 0xD8; 44 R255). -/
def execSet_3_B (s : State) : Answer := setReg .o3 .b s

/-- `SET 3,C` (0xCB 0xD9; 44 R255). -/
def execSet_3_C (s : State) : Answer := setReg .o3 .c s

/-- `SET 3,D` (0xCB 0xDA; 44 R255). -/
def execSet_3_D (s : State) : Answer := setReg .o3 .d s

/-- `SET 3,E` (0xCB 0xDB; 44 R255). -/
def execSet_3_E (s : State) : Answer := setReg .o3 .e s

/-- `SET 3,H` (0xCB 0xDC; 44 R255). -/
def execSet_3_H (s : State) : Answer := setReg .o3 .h s

/-- `SET 3,L` (0xCB 0xDD; 44 R255). -/
def execSet_3_L (s : State) : Answer := setReg .o3 .l s

/-- `SET 3,A` (0xCB 0xDF; 44 R255). -/
def execSet_3_A (s : State) : Answer := setReg .o3 .a s

/-- `SET 3,(HL)` (0xCB 0xDE; 44 R255). -/
def execSet_3_atHL (s : State) : Answer := setMem .o3 s

/-- `SET 4,B` (0xCB 0xE0; 44 R255). -/
def execSet_4_B (s : State) : Answer := setReg .o4 .b s

/-- `SET 4,C` (0xCB 0xE1; 44 R255). -/
def execSet_4_C (s : State) : Answer := setReg .o4 .c s

/-- `SET 4,D` (0xCB 0xE2; 44 R255). -/
def execSet_4_D (s : State) : Answer := setReg .o4 .d s

/-- `SET 4,E` (0xCB 0xE3; 44 R255). -/
def execSet_4_E (s : State) : Answer := setReg .o4 .e s

/-- `SET 4,H` (0xCB 0xE4; 44 R255). -/
def execSet_4_H (s : State) : Answer := setReg .o4 .h s

/-- `SET 4,L` (0xCB 0xE5; 44 R255). -/
def execSet_4_L (s : State) : Answer := setReg .o4 .l s

/-- `SET 4,A` (0xCB 0xE7; 44 R255). -/
def execSet_4_A (s : State) : Answer := setReg .o4 .a s

/-- `SET 4,(HL)` (0xCB 0xE6; 44 R255). -/
def execSet_4_atHL (s : State) : Answer := setMem .o4 s

/-- `SET 5,B` (0xCB 0xE8; 44 R255). -/
def execSet_5_B (s : State) : Answer := setReg .o5 .b s

/-- `SET 5,C` (0xCB 0xE9; 44 R255). -/
def execSet_5_C (s : State) : Answer := setReg .o5 .c s

/-- `SET 5,D` (0xCB 0xEA; 44 R255). -/
def execSet_5_D (s : State) : Answer := setReg .o5 .d s

/-- `SET 5,E` (0xCB 0xEB; 44 R255). -/
def execSet_5_E (s : State) : Answer := setReg .o5 .e s

/-- `SET 5,H` (0xCB 0xEC; 44 R255). -/
def execSet_5_H (s : State) : Answer := setReg .o5 .h s

/-- `SET 5,L` (0xCB 0xED; 44 R255). -/
def execSet_5_L (s : State) : Answer := setReg .o5 .l s

/-- `SET 5,A` (0xCB 0xEF; 44 R255). -/
def execSet_5_A (s : State) : Answer := setReg .o5 .a s

/-- `SET 5,(HL)` (0xCB 0xEE; 44 R255). -/
def execSet_5_atHL (s : State) : Answer := setMem .o5 s

/-- `SET 6,B` (0xCB 0xF0; 44 R255). -/
def execSet_6_B (s : State) : Answer := setReg .o6 .b s

/-- `SET 6,C` (0xCB 0xF1; 44 R255). -/
def execSet_6_C (s : State) : Answer := setReg .o6 .c s

/-- `SET 6,D` (0xCB 0xF2; 44 R255). -/
def execSet_6_D (s : State) : Answer := setReg .o6 .d s

/-- `SET 6,E` (0xCB 0xF3; 44 R255). -/
def execSet_6_E (s : State) : Answer := setReg .o6 .e s

/-- `SET 6,H` (0xCB 0xF4; 44 R255). -/
def execSet_6_H (s : State) : Answer := setReg .o6 .h s

/-- `SET 6,L` (0xCB 0xF5; 44 R255). -/
def execSet_6_L (s : State) : Answer := setReg .o6 .l s

/-- `SET 6,A` (0xCB 0xF7; 44 R255). -/
def execSet_6_A (s : State) : Answer := setReg .o6 .a s

/-- `SET 6,(HL)` (0xCB 0xF6; 44 R255). -/
def execSet_6_atHL (s : State) : Answer := setMem .o6 s

/-- `SET 7,B` (0xCB 0xF8; 44 R255). -/
def execSet_7_B (s : State) : Answer := setReg .o7 .b s

/-- `SET 7,C` (0xCB 0xF9; 44 R255). -/
def execSet_7_C (s : State) : Answer := setReg .o7 .c s

/-- `SET 7,D` (0xCB 0xFA; 44 R255). -/
def execSet_7_D (s : State) : Answer := setReg .o7 .d s

/-- `SET 7,E` (0xCB 0xFB; 44 R255). -/
def execSet_7_E (s : State) : Answer := setReg .o7 .e s

/-- `SET 7,H` (0xCB 0xFC; 44 R255). -/
def execSet_7_H (s : State) : Answer := setReg .o7 .h s

/-- `SET 7,L` (0xCB 0xFD; 44 R255). -/
def execSet_7_L (s : State) : Answer := setReg .o7 .l s

/-- `SET 7,A` (0xCB 0xFF; 44 R255). -/
def execSet_7_A (s : State) : Answer := setReg .o7 .a s

/-- `SET 7,(HL)` (0xCB 0xFE; 44 R255). -/
def execSet_7_atHL (s : State) : Answer := setMem .o7 s

end Sys2Proof.Machine
end

