-- ==== Sys2Proof/Machine/Control.lean ====
section
/-! DEFINITION. The control-transfer instructions (45 R270 to R281). -/
namespace Sys2Proof.Machine

/-- Jump to an address. -/
def jumpTo (target : Word) (s : State) : Access Unit := cpuOnly (fun c => c.setPc target) s

/-- Jump relative to the following instruction (45 R274). -/
def jumpRelative (n8 : Byte) (s : State) : Access Unit := cpuOnly (fun c => c.setPc (c.pc + sext16 n8)) s

/-- `Push16(PC); PC <- target` (45 R276, R281). -/
def callTo (target : Word) (s : State) : Access Unit := (push16 s.cpu.pc s).andThen fun _ s1 => jumpTo target s1

/-- `PC <- Pop16()` (45 R278). -/
def returnToCaller (s : State) : Access Unit := (pop16 s).andThen fun v s1 => jumpTo v s1

/-- `JP cc,a16` (45 R272). -/
def jumpIf (cc : Cond) (n16 : Word) (s : State) : Answer := runOp 3 12 (whenTaken cc 4 (jumpTo n16)) s

/-- `JR cc,e8` (45 R275). -/
def jumpRelativeIf (cc : Cond) (n8 : Byte) (s : State) : Answer := runOp 2 8 (whenTaken cc 4 (jumpRelative n8)) s

/-- `CALL cc,a16` (45 R277). -/
def callIf (cc : Cond) (n16 : Word) (s : State) : Answer := runOp 3 12 (whenTaken cc 12 (callTo n16)) s

/-- `RET cc` (45 R279). -/
def returnIf (cc : Cond) (s : State) : Answer := runOp 1 8 (whenTaken cc 12 returnToCaller) s

/-- `RST y*8` (45 R281). -/
def restart (y : Oct) (s : State) : Answer := runOp 1 16 (callTo (BitVec.ofNat 16 (y.toNat * 8))) s

/-- `JP a16` (0xC3; 45 R271). -/
def execJp_a16 (n16 : Word) (s : State) : Answer := runOp 3 16 (jumpTo n16) s

/-- `JP NZ,a16` (0xC2; 45 R272). -/
def execJp_NZ_a16 (n16 : Word) (s : State) : Answer := jumpIf .nz n16 s

/-- `JP Z,a16` (0xCA; 45 R272). -/
def execJp_Z_a16 (n16 : Word) (s : State) : Answer := jumpIf .z n16 s

/-- `JP NC,a16` (0xD2; 45 R272). -/
def execJp_NC_a16 (n16 : Word) (s : State) : Answer := jumpIf .nc n16 s

/-- `JP C,a16` (0xDA; 45 R272). -/
def execJp_C_a16 (n16 : Word) (s : State) : Answer := jumpIf .c n16 s

/-- `JP HL` (0xE9; 45 R273). -/
def execJp_HL (s : State) : Answer := runOp 1 4 (fun s => jumpTo s.cpu.hl s) s

/-- `JR e8` (0x18; 45 R274). -/
def execJr_e8 (n8 : Byte) (s : State) : Answer := runOp 2 12 (jumpRelative n8) s

/-- `JR NZ,e8` (0x20; 45 R275). -/
def execJr_NZ_e8 (n8 : Byte) (s : State) : Answer := jumpRelativeIf .nz n8 s

/-- `JR Z,e8` (0x28; 45 R275). -/
def execJr_Z_e8 (n8 : Byte) (s : State) : Answer := jumpRelativeIf .z n8 s

/-- `JR NC,e8` (0x30; 45 R275). -/
def execJr_NC_e8 (n8 : Byte) (s : State) : Answer := jumpRelativeIf .nc n8 s

/-- `JR C,e8` (0x38; 45 R275). -/
def execJr_C_e8 (n8 : Byte) (s : State) : Answer := jumpRelativeIf .c n8 s

/-- `CALL a16` (0xCD; 45 R276). -/
def execCall_a16 (n16 : Word) (s : State) : Answer := runOp 3 24 (callTo n16) s

/-- `CALL NZ,a16` (0xC4; 45 R277). -/
def execCall_NZ_a16 (n16 : Word) (s : State) : Answer := callIf .nz n16 s

/-- `CALL Z,a16` (0xCC; 45 R277). -/
def execCall_Z_a16 (n16 : Word) (s : State) : Answer := callIf .z n16 s

/-- `CALL NC,a16` (0xD4; 45 R277). -/
def execCall_NC_a16 (n16 : Word) (s : State) : Answer := callIf .nc n16 s

/-- `CALL C,a16` (0xDC; 45 R277). -/
def execCall_C_a16 (n16 : Word) (s : State) : Answer := callIf .c n16 s

/-- `RET` (0xC9; 45 R278). -/
def execRet (s : State) : Answer := runOp 1 16 returnToCaller s

/-- `RET NZ` (0xC0; 45 R279). -/
def execRet_NZ (s : State) : Answer := returnIf .nz s

/-- `RET Z` (0xC8; 45 R279). -/
def execRet_Z (s : State) : Answer := returnIf .z s

/-- `RET NC` (0xD0; 45 R279). -/
def execRet_NC (s : State) : Answer := returnIf .nc s

/-- `RET C` (0xD8; 45 R279). -/
def execRet_C (s : State) : Answer := returnIf .c s

/-- `RETI` (0xD9; 45 R280). -/
def execReti (s : State) : Answer := runOp 1 16 returnFromInterrupt s

/-- `RST 0x00` (0xC7; 45 R281). -/
def execRst_00 (s : State) : Answer := restart .o0 s

/-- `RST 0x08` (0xCF; 45 R281). -/
def execRst_08 (s : State) : Answer := restart .o1 s

/-- `RST 0x10` (0xD7; 45 R281). -/
def execRst_10 (s : State) : Answer := restart .o2 s

/-- `RST 0x18` (0xDF; 45 R281). -/
def execRst_18 (s : State) : Answer := restart .o3 s

/-- `RST 0x20` (0xE7; 45 R281). -/
def execRst_20 (s : State) : Answer := restart .o4 s

/-- `RST 0x28` (0xEF; 45 R281). -/
def execRst_28 (s : State) : Answer := restart .o5 s

/-- `RST 0x30` (0xF7; 45 R281). -/
def execRst_30 (s : State) : Answer := restart .o6 s

/-- `RST 0x38` (0xFF; 45 R281). -/
def execRst_38 (s : State) : Answer := restart .o7 s

end Sys2Proof.Machine
end

