-- ==== Sys2Proof/Machine/Load16.lean ====
section
/-! DEFINITION. The 16-bit loads and the stack instructions (41 R180 to R186). -/
namespace Sys2Proof.Machine

/-- Load an immediate word into a pair or `SP` (41 R180). -/
def ldPairImm (p : Rp) (n16 : Word) (s : State) : Answer := runOp 3 12 (cpuOnly fun c => c.setRp p n16) s

/-- Push a pair (41 R184). -/
def pushPair (p : Rp2) (s : State) : Answer := runOp 1 16 (fun s => push16 (s.cpu.rp2 p) s) s

/-- Pop a pair (41 R185, R186). -/
def popPair (p : Rp2) (s : State) : Answer :=
  runOp 1 12 (fun s => (pop16 s).andThen fun v s1 => .ok () (s1.onCpu fun c => c.setRp2 p v)) s

/-- `LD BC,d16` (0x01; 41 R180). -/
def execLd_BC_d16 (n16 : Word) (s : State) : Answer := ldPairImm .bc n16 s

/-- `LD DE,d16` (0x11; 41 R180). -/
def execLd_DE_d16 (n16 : Word) (s : State) : Answer := ldPairImm .de n16 s

/-- `LD HL,d16` (0x21; 41 R180). -/
def execLd_HL_d16 (n16 : Word) (s : State) : Answer := ldPairImm .hl n16 s

/-- `LD SP,d16` (0x31; 41 R180). -/
def execLd_SP_d16 (n16 : Word) (s : State) : Answer := ldPairImm .sp n16 s

/-- `LD (a16),SP` (0x08; 41 R181). -/
def execLd_atA16_SP (n16 : Word) (s : State) : Answer := runOp 3 20 (fun s => writeWord n16 s.cpu.sp s) s

/-- `LD SP,HL` (0xF9; 41 R182). -/
def execLd_SP_HL (s : State) : Answer := runOp 1 8 (cpuOnly fun c => c.setSp c.hl) s

/-- `LD HL,SP+e8` (0xF8; 41 R183). -/
def execLd_HL_SP_e8 (n8 : Byte) (s : State) : Answer := 
  runOp 2 12 (cpuOnly fun c => (c.setHl (c.sp + sext16 n8)).setFlags (spOffsetFlags c.sp n8)) s

/-- `PUSH BC` (0xC5; 41 R184). -/
def execPush_BC (s : State) : Answer := pushPair .bc s

/-- `PUSH DE` (0xD5; 41 R184). -/
def execPush_DE (s : State) : Answer := pushPair .de s

/-- `PUSH HL` (0xE5; 41 R184). -/
def execPush_HL (s : State) : Answer := pushPair .hl s

/-- `PUSH AF` (0xF5; 41 R184). -/
def execPush_AF (s : State) : Answer := pushPair .af s

/-- `POP BC` (0xC1; 41 R185). -/
def execPop_BC (s : State) : Answer := popPair .bc s

/-- `POP DE` (0xD1; 41 R185). -/
def execPop_DE (s : State) : Answer := popPair .de s

/-- `POP HL` (0xE1; 41 R185). -/
def execPop_HL (s : State) : Answer := popPair .hl s

/-- `POP AF` (0xF1; 41 R186). -/
def execPop_AF (s : State) : Answer := popPair .af s

end Sys2Proof.Machine
end

