-- ==== Sys2Proof/Machine/Load8.lean ====
section
/-! DEFINITION. The 8-bit loads (40 R150 to R169). None reads or writes a flag (40 R161). -/
namespace Sys2Proof.Machine

/-- Copy a register to a register (40 R150). -/
def ldRegReg (dst src : R8) (s : State) : Answer := runOp 1 4 (cpuOnly fun c => c.setReg dst (c.reg src)) s

/-- Load an immediate byte into a register (40 R151). -/
def ldRegImm (dst : R8) (n8 : Byte) (s : State) : Answer := runOp 2 8 (cpuOnly fun c => c.setReg dst n8) s

/-- Load the byte at `HL` into a register (40 R152). -/
def ldRegHl (dst : R8) (s : State) : Answer := runOp 1 8 (withHl fun v c => c.setReg dst v) s

/-- Store a register at `HL` (40 R153). -/
def ldHlReg (src : R8) (s : State) : Answer := runOp 1 8 (fun s => writeByte s.cpu.hl (s.cpu.reg src) s) s

/-- Go on with `HL` moved by one, after a load or store that did not stop (40 R166 to R169). -/
def thenMoveHl (delta : Word) (x : Access Unit) : Access Unit :=
  x.andThen fun _ s1 => .ok () (s1.onCpu fun c => c.setHl (c.hl + delta))

/-- `LD B,B` (0x40; 40 R150). -/
def execLd_B_B (s : State) : Answer := ldRegReg .b .b s

/-- `LD B,C` (0x41; 40 R150). -/
def execLd_B_C (s : State) : Answer := ldRegReg .b .c s

/-- `LD B,D` (0x42; 40 R150). -/
def execLd_B_D (s : State) : Answer := ldRegReg .b .d s

/-- `LD B,E` (0x43; 40 R150). -/
def execLd_B_E (s : State) : Answer := ldRegReg .b .e s

/-- `LD B,H` (0x44; 40 R150). -/
def execLd_B_H (s : State) : Answer := ldRegReg .b .h s

/-- `LD B,L` (0x45; 40 R150). -/
def execLd_B_L (s : State) : Answer := ldRegReg .b .l s

/-- `LD B,A` (0x47; 40 R150). -/
def execLd_B_A (s : State) : Answer := ldRegReg .b .a s

/-- `LD C,B` (0x48; 40 R150). -/
def execLd_C_B (s : State) : Answer := ldRegReg .c .b s

/-- `LD C,C` (0x49; 40 R150). -/
def execLd_C_C (s : State) : Answer := ldRegReg .c .c s

/-- `LD C,D` (0x4A; 40 R150). -/
def execLd_C_D (s : State) : Answer := ldRegReg .c .d s

/-- `LD C,E` (0x4B; 40 R150). -/
def execLd_C_E (s : State) : Answer := ldRegReg .c .e s

/-- `LD C,H` (0x4C; 40 R150). -/
def execLd_C_H (s : State) : Answer := ldRegReg .c .h s

/-- `LD C,L` (0x4D; 40 R150). -/
def execLd_C_L (s : State) : Answer := ldRegReg .c .l s

/-- `LD C,A` (0x4F; 40 R150). -/
def execLd_C_A (s : State) : Answer := ldRegReg .c .a s

/-- `LD D,B` (0x50; 40 R150). -/
def execLd_D_B (s : State) : Answer := ldRegReg .d .b s

/-- `LD D,C` (0x51; 40 R150). -/
def execLd_D_C (s : State) : Answer := ldRegReg .d .c s

/-- `LD D,D` (0x52; 40 R150). -/
def execLd_D_D (s : State) : Answer := ldRegReg .d .d s

/-- `LD D,E` (0x53; 40 R150). -/
def execLd_D_E (s : State) : Answer := ldRegReg .d .e s

/-- `LD D,H` (0x54; 40 R150). -/
def execLd_D_H (s : State) : Answer := ldRegReg .d .h s

/-- `LD D,L` (0x55; 40 R150). -/
def execLd_D_L (s : State) : Answer := ldRegReg .d .l s

/-- `LD D,A` (0x57; 40 R150). -/
def execLd_D_A (s : State) : Answer := ldRegReg .d .a s

/-- `LD E,B` (0x58; 40 R150). -/
def execLd_E_B (s : State) : Answer := ldRegReg .e .b s

/-- `LD E,C` (0x59; 40 R150). -/
def execLd_E_C (s : State) : Answer := ldRegReg .e .c s

/-- `LD E,D` (0x5A; 40 R150). -/
def execLd_E_D (s : State) : Answer := ldRegReg .e .d s

/-- `LD E,E` (0x5B; 40 R150). -/
def execLd_E_E (s : State) : Answer := ldRegReg .e .e s

/-- `LD E,H` (0x5C; 40 R150). -/
def execLd_E_H (s : State) : Answer := ldRegReg .e .h s

/-- `LD E,L` (0x5D; 40 R150). -/
def execLd_E_L (s : State) : Answer := ldRegReg .e .l s

/-- `LD E,A` (0x5F; 40 R150). -/
def execLd_E_A (s : State) : Answer := ldRegReg .e .a s

/-- `LD H,B` (0x60; 40 R150). -/
def execLd_H_B (s : State) : Answer := ldRegReg .h .b s

/-- `LD H,C` (0x61; 40 R150). -/
def execLd_H_C (s : State) : Answer := ldRegReg .h .c s

/-- `LD H,D` (0x62; 40 R150). -/
def execLd_H_D (s : State) : Answer := ldRegReg .h .d s

/-- `LD H,E` (0x63; 40 R150). -/
def execLd_H_E (s : State) : Answer := ldRegReg .h .e s

/-- `LD H,H` (0x64; 40 R150). -/
def execLd_H_H (s : State) : Answer := ldRegReg .h .h s

/-- `LD H,L` (0x65; 40 R150). -/
def execLd_H_L (s : State) : Answer := ldRegReg .h .l s

/-- `LD H,A` (0x67; 40 R150). -/
def execLd_H_A (s : State) : Answer := ldRegReg .h .a s

/-- `LD L,B` (0x68; 40 R150). -/
def execLd_L_B (s : State) : Answer := ldRegReg .l .b s

/-- `LD L,C` (0x69; 40 R150). -/
def execLd_L_C (s : State) : Answer := ldRegReg .l .c s

/-- `LD L,D` (0x6A; 40 R150). -/
def execLd_L_D (s : State) : Answer := ldRegReg .l .d s

/-- `LD L,E` (0x6B; 40 R150). -/
def execLd_L_E (s : State) : Answer := ldRegReg .l .e s

/-- `LD L,H` (0x6C; 40 R150). -/
def execLd_L_H (s : State) : Answer := ldRegReg .l .h s

/-- `LD L,L` (0x6D; 40 R150). -/
def execLd_L_L (s : State) : Answer := ldRegReg .l .l s

/-- `LD L,A` (0x6F; 40 R150). -/
def execLd_L_A (s : State) : Answer := ldRegReg .l .a s

/-- `LD A,B` (0x78; 40 R150). -/
def execLd_A_B (s : State) : Answer := ldRegReg .a .b s

/-- `LD A,C` (0x79; 40 R150). -/
def execLd_A_C (s : State) : Answer := ldRegReg .a .c s

/-- `LD A,D` (0x7A; 40 R150). -/
def execLd_A_D (s : State) : Answer := ldRegReg .a .d s

/-- `LD A,E` (0x7B; 40 R150). -/
def execLd_A_E (s : State) : Answer := ldRegReg .a .e s

/-- `LD A,H` (0x7C; 40 R150). -/
def execLd_A_H (s : State) : Answer := ldRegReg .a .h s

/-- `LD A,L` (0x7D; 40 R150). -/
def execLd_A_L (s : State) : Answer := ldRegReg .a .l s

/-- `LD A,A` (0x7F; 40 R150). -/
def execLd_A_A (s : State) : Answer := ldRegReg .a .a s

/-- `LD B,d8` (0x06; 40 R151). -/
def execLd_B_d8 (n8 : Byte) (s : State) : Answer := ldRegImm .b n8 s

/-- `LD C,d8` (0x0E; 40 R151). -/
def execLd_C_d8 (n8 : Byte) (s : State) : Answer := ldRegImm .c n8 s

/-- `LD D,d8` (0x16; 40 R151). -/
def execLd_D_d8 (n8 : Byte) (s : State) : Answer := ldRegImm .d n8 s

/-- `LD E,d8` (0x1E; 40 R151). -/
def execLd_E_d8 (n8 : Byte) (s : State) : Answer := ldRegImm .e n8 s

/-- `LD H,d8` (0x26; 40 R151). -/
def execLd_H_d8 (n8 : Byte) (s : State) : Answer := ldRegImm .h n8 s

/-- `LD L,d8` (0x2E; 40 R151). -/
def execLd_L_d8 (n8 : Byte) (s : State) : Answer := ldRegImm .l n8 s

/-- `LD A,d8` (0x3E; 40 R151). -/
def execLd_A_d8 (n8 : Byte) (s : State) : Answer := ldRegImm .a n8 s

/-- `LD B,(HL)` (0x46; 40 R152). -/
def execLd_B_atHL (s : State) : Answer := ldRegHl .b s

/-- `LD C,(HL)` (0x4E; 40 R152). -/
def execLd_C_atHL (s : State) : Answer := ldRegHl .c s

/-- `LD D,(HL)` (0x56; 40 R152). -/
def execLd_D_atHL (s : State) : Answer := ldRegHl .d s

/-- `LD E,(HL)` (0x5E; 40 R152). -/
def execLd_E_atHL (s : State) : Answer := ldRegHl .e s

/-- `LD H,(HL)` (0x66; 40 R152). -/
def execLd_H_atHL (s : State) : Answer := ldRegHl .h s

/-- `LD L,(HL)` (0x6E; 40 R152). -/
def execLd_L_atHL (s : State) : Answer := ldRegHl .l s

/-- `LD A,(HL)` (0x7E; 40 R152). -/
def execLd_A_atHL (s : State) : Answer := ldRegHl .a s

/-- `LD (HL),B` (0x70; 40 R153). -/
def execLd_atHL_B (s : State) : Answer := ldHlReg .b s

/-- `LD (HL),C` (0x71; 40 R153). -/
def execLd_atHL_C (s : State) : Answer := ldHlReg .c s

/-- `LD (HL),D` (0x72; 40 R153). -/
def execLd_atHL_D (s : State) : Answer := ldHlReg .d s

/-- `LD (HL),E` (0x73; 40 R153). -/
def execLd_atHL_E (s : State) : Answer := ldHlReg .e s

/-- `LD (HL),H` (0x74; 40 R153). -/
def execLd_atHL_H (s : State) : Answer := ldHlReg .h s

/-- `LD (HL),L` (0x75; 40 R153). -/
def execLd_atHL_L (s : State) : Answer := ldHlReg .l s

/-- `LD (HL),A` (0x77; 40 R153). -/
def execLd_atHL_A (s : State) : Answer := ldHlReg .a s

/-- `LD (HL),d8` (0x36; 40 R154). -/
def execLd_atHL_d8 (n8 : Byte) (s : State) : Answer := runOp 2 12 (fun s => writeByte s.cpu.hl n8 s) s

/-- `LD A,(BC)` (0x0A; 40 R155). -/
def execLd_A_atBC (s : State) : Answer := runOp 1 8 (fun s => loadA s.cpu.bc s) s

/-- `LD A,(DE)` (0x1A; 40 R156). -/
def execLd_A_atDE (s : State) : Answer := runOp 1 8 (fun s => loadA s.cpu.de s) s

/-- `LD (BC),A` (0x02; 40 R157). -/
def execLd_atBC_A (s : State) : Answer := runOp 1 8 (fun s => storeA s.cpu.bc s) s

/-- `LD (DE),A` (0x12; 40 R158). -/
def execLd_atDE_A (s : State) : Answer := runOp 1 8 (fun s => storeA s.cpu.de s) s

/-- `LD A,(a16)` (0xFA; 40 R159). -/
def execLd_A_atA16 (n16 : Word) (s : State) : Answer := runOp 3 16 (loadA n16) s

/-- `LD (a16),A` (0xEA; 40 R160). -/
def execLd_atA16_A (n16 : Word) (s : State) : Answer := runOp 3 16 (storeA n16) s

/-- `LDH A,(a8)` (0xF0; 40 R162). -/
def execLdh_A_atA8 (n8 : Byte) (s : State) : Answer := runOp 2 12 (loadA (highPage n8)) s

/-- `LDH (a8),A` (0xE0; 40 R163). -/
def execLdh_atA8_A (n8 : Byte) (s : State) : Answer := runOp 2 12 (storeA (highPage n8)) s

/-- `LD A,(C)` (0xF2; 40 R164). -/
def execLd_A_atC (s : State) : Answer := runOp 1 8 (fun s => loadA (highPage s.cpu.c) s) s

/-- `LD (C),A` (0xE2; 40 R165). -/
def execLd_atC_A (s : State) : Answer := runOp 1 8 (fun s => storeA (highPage s.cpu.c) s) s

/-- `LD (HL+),A` (0x22; 40 R166). -/
def execLd_atHLI_A (s : State) : Answer := runOp 1 8 (fun s => thenMoveHl 1 (storeA s.cpu.hl s)) s

/-- `LD (HL-),A` (0x32; 40 R167). -/
def execLd_atHLD_A (s : State) : Answer := runOp 1 8 (fun s => thenMoveHl (-1) (storeA s.cpu.hl s)) s

/-- `LD A,(HL+)` (0x2A; 40 R168). -/
def execLd_A_atHLI (s : State) : Answer := runOp 1 8 (fun s => thenMoveHl 1 (loadA s.cpu.hl s)) s

/-- `LD A,(HL-)` (0x3A; 40 R169). -/
def execLd_A_atHLD (s : State) : Answer := runOp 1 8 (fun s => thenMoveHl (-1) (loadA s.cpu.hl s)) s

end Sys2Proof.Machine
end

