-- ==== Sys2Proof/Machine/Rotate.lean ====
section
/-! DEFINITION. The accumulator rotates and the prefixed rotates, shifts and swaps (44 R240 to R252). -/
namespace Sys2Proof.Machine

/-- An accumulator rotate (44 R241 to R244): the prefixed operation on `A`, with Z cleared. -/
def rotateA (op : RotOp) (s : State) : Answer :=
  runOp 1 4 (cpuOnly (modifyReg .a (fun v old => rotResult op v old.c) (fun v _ => some (rotAccFlags op v)))) s

/-- A prefixed rotate, shift or swap of a register (44 R240, R245 to R252). -/
def rotateReg (op : RotOp) (r : R8) (s : State) : Answer :=
  runOp 2 8 (cpuOnly (modifyReg r (fun v old => rotResult op v old.c) (fun v old => some (rotFlags op v old.c)))) s

/-- A prefixed rotate, shift or swap of the byte at `HL` (44 R240, R245 to R252). -/
def rotateMem (op : RotOp) (s : State) : Answer :=
  runOp 2 16 (modifyHl (fun v old => rotResult op v old.c) (fun v old => some (rotFlags op v old.c))) s

/-- `RLCA` (0x07; 44 R241). -/
def execRlca (s : State) : Answer := rotateA .rlc s

/-- `RRCA` (0x0F; 44 R242). -/
def execRrca (s : State) : Answer := rotateA .rrc s

/-- `RLA` (0x17; 44 R243). -/
def execRla (s : State) : Answer := rotateA .rl s

/-- `RRA` (0x1F; 44 R244). -/
def execRra (s : State) : Answer := rotateA .rr s

/-- `RLC B` (0xCB 0x00; 44 R245). -/
def execRlc_B (s : State) : Answer := rotateReg .rlc .b s

/-- `RLC C` (0xCB 0x01; 44 R245). -/
def execRlc_C (s : State) : Answer := rotateReg .rlc .c s

/-- `RLC D` (0xCB 0x02; 44 R245). -/
def execRlc_D (s : State) : Answer := rotateReg .rlc .d s

/-- `RLC E` (0xCB 0x03; 44 R245). -/
def execRlc_E (s : State) : Answer := rotateReg .rlc .e s

/-- `RLC H` (0xCB 0x04; 44 R245). -/
def execRlc_H (s : State) : Answer := rotateReg .rlc .h s

/-- `RLC L` (0xCB 0x05; 44 R245). -/
def execRlc_L (s : State) : Answer := rotateReg .rlc .l s

/-- `RLC A` (0xCB 0x07; 44 R245). -/
def execRlc_A (s : State) : Answer := rotateReg .rlc .a s

/-- `RLC (HL)` (0xCB 0x06; 44 R245). -/
def execRlc_atHL (s : State) : Answer := rotateMem .rlc s

/-- `RRC B` (0xCB 0x08; 44 R246). -/
def execRrc_B (s : State) : Answer := rotateReg .rrc .b s

/-- `RRC C` (0xCB 0x09; 44 R246). -/
def execRrc_C (s : State) : Answer := rotateReg .rrc .c s

/-- `RRC D` (0xCB 0x0A; 44 R246). -/
def execRrc_D (s : State) : Answer := rotateReg .rrc .d s

/-- `RRC E` (0xCB 0x0B; 44 R246). -/
def execRrc_E (s : State) : Answer := rotateReg .rrc .e s

/-- `RRC H` (0xCB 0x0C; 44 R246). -/
def execRrc_H (s : State) : Answer := rotateReg .rrc .h s

/-- `RRC L` (0xCB 0x0D; 44 R246). -/
def execRrc_L (s : State) : Answer := rotateReg .rrc .l s

/-- `RRC A` (0xCB 0x0F; 44 R246). -/
def execRrc_A (s : State) : Answer := rotateReg .rrc .a s

/-- `RRC (HL)` (0xCB 0x0E; 44 R246). -/
def execRrc_atHL (s : State) : Answer := rotateMem .rrc s

/-- `RL B` (0xCB 0x10; 44 R247). -/
def execRl_B (s : State) : Answer := rotateReg .rl .b s

/-- `RL C` (0xCB 0x11; 44 R247). -/
def execRl_C (s : State) : Answer := rotateReg .rl .c s

/-- `RL D` (0xCB 0x12; 44 R247). -/
def execRl_D (s : State) : Answer := rotateReg .rl .d s

/-- `RL E` (0xCB 0x13; 44 R247). -/
def execRl_E (s : State) : Answer := rotateReg .rl .e s

/-- `RL H` (0xCB 0x14; 44 R247). -/
def execRl_H (s : State) : Answer := rotateReg .rl .h s

/-- `RL L` (0xCB 0x15; 44 R247). -/
def execRl_L (s : State) : Answer := rotateReg .rl .l s

/-- `RL A` (0xCB 0x17; 44 R247). -/
def execRl_A (s : State) : Answer := rotateReg .rl .a s

/-- `RL (HL)` (0xCB 0x16; 44 R247). -/
def execRl_atHL (s : State) : Answer := rotateMem .rl s

/-- `RR B` (0xCB 0x18; 44 R248). -/
def execRr_B (s : State) : Answer := rotateReg .rr .b s

/-- `RR C` (0xCB 0x19; 44 R248). -/
def execRr_C (s : State) : Answer := rotateReg .rr .c s

/-- `RR D` (0xCB 0x1A; 44 R248). -/
def execRr_D (s : State) : Answer := rotateReg .rr .d s

/-- `RR E` (0xCB 0x1B; 44 R248). -/
def execRr_E (s : State) : Answer := rotateReg .rr .e s

/-- `RR H` (0xCB 0x1C; 44 R248). -/
def execRr_H (s : State) : Answer := rotateReg .rr .h s

/-- `RR L` (0xCB 0x1D; 44 R248). -/
def execRr_L (s : State) : Answer := rotateReg .rr .l s

/-- `RR A` (0xCB 0x1F; 44 R248). -/
def execRr_A (s : State) : Answer := rotateReg .rr .a s

/-- `RR (HL)` (0xCB 0x1E; 44 R248). -/
def execRr_atHL (s : State) : Answer := rotateMem .rr s

/-- `SLA B` (0xCB 0x20; 44 R249). -/
def execSla_B (s : State) : Answer := rotateReg .sla .b s

/-- `SLA C` (0xCB 0x21; 44 R249). -/
def execSla_C (s : State) : Answer := rotateReg .sla .c s

/-- `SLA D` (0xCB 0x22; 44 R249). -/
def execSla_D (s : State) : Answer := rotateReg .sla .d s

/-- `SLA E` (0xCB 0x23; 44 R249). -/
def execSla_E (s : State) : Answer := rotateReg .sla .e s

/-- `SLA H` (0xCB 0x24; 44 R249). -/
def execSla_H (s : State) : Answer := rotateReg .sla .h s

/-- `SLA L` (0xCB 0x25; 44 R249). -/
def execSla_L (s : State) : Answer := rotateReg .sla .l s

/-- `SLA A` (0xCB 0x27; 44 R249). -/
def execSla_A (s : State) : Answer := rotateReg .sla .a s

/-- `SLA (HL)` (0xCB 0x26; 44 R249). -/
def execSla_atHL (s : State) : Answer := rotateMem .sla s

/-- `SRA B` (0xCB 0x28; 44 R250). -/
def execSra_B (s : State) : Answer := rotateReg .sra .b s

/-- `SRA C` (0xCB 0x29; 44 R250). -/
def execSra_C (s : State) : Answer := rotateReg .sra .c s

/-- `SRA D` (0xCB 0x2A; 44 R250). -/
def execSra_D (s : State) : Answer := rotateReg .sra .d s

/-- `SRA E` (0xCB 0x2B; 44 R250). -/
def execSra_E (s : State) : Answer := rotateReg .sra .e s

/-- `SRA H` (0xCB 0x2C; 44 R250). -/
def execSra_H (s : State) : Answer := rotateReg .sra .h s

/-- `SRA L` (0xCB 0x2D; 44 R250). -/
def execSra_L (s : State) : Answer := rotateReg .sra .l s

/-- `SRA A` (0xCB 0x2F; 44 R250). -/
def execSra_A (s : State) : Answer := rotateReg .sra .a s

/-- `SRA (HL)` (0xCB 0x2E; 44 R250). -/
def execSra_atHL (s : State) : Answer := rotateMem .sra s

/-- `SWAP B` (0xCB 0x30; 44 R251). -/
def execSwap_B (s : State) : Answer := rotateReg .swap .b s

/-- `SWAP C` (0xCB 0x31; 44 R251). -/
def execSwap_C (s : State) : Answer := rotateReg .swap .c s

/-- `SWAP D` (0xCB 0x32; 44 R251). -/
def execSwap_D (s : State) : Answer := rotateReg .swap .d s

/-- `SWAP E` (0xCB 0x33; 44 R251). -/
def execSwap_E (s : State) : Answer := rotateReg .swap .e s

/-- `SWAP H` (0xCB 0x34; 44 R251). -/
def execSwap_H (s : State) : Answer := rotateReg .swap .h s

/-- `SWAP L` (0xCB 0x35; 44 R251). -/
def execSwap_L (s : State) : Answer := rotateReg .swap .l s

/-- `SWAP A` (0xCB 0x37; 44 R251). -/
def execSwap_A (s : State) : Answer := rotateReg .swap .a s

/-- `SWAP (HL)` (0xCB 0x36; 44 R251). -/
def execSwap_atHL (s : State) : Answer := rotateMem .swap s

/-- `SRL B` (0xCB 0x38; 44 R252). -/
def execSrl_B (s : State) : Answer := rotateReg .srl .b s

/-- `SRL C` (0xCB 0x39; 44 R252). -/
def execSrl_C (s : State) : Answer := rotateReg .srl .c s

/-- `SRL D` (0xCB 0x3A; 44 R252). -/
def execSrl_D (s : State) : Answer := rotateReg .srl .d s

/-- `SRL E` (0xCB 0x3B; 44 R252). -/
def execSrl_E (s : State) : Answer := rotateReg .srl .e s

/-- `SRL H` (0xCB 0x3C; 44 R252). -/
def execSrl_H (s : State) : Answer := rotateReg .srl .h s

/-- `SRL L` (0xCB 0x3D; 44 R252). -/
def execSrl_L (s : State) : Answer := rotateReg .srl .l s

/-- `SRL A` (0xCB 0x3F; 44 R252). -/
def execSrl_A (s : State) : Answer := rotateReg .srl .a s

/-- `SRL (HL)` (0xCB 0x3E; 44 R252). -/
def execSrl_atHL (s : State) : Answer := rotateMem .srl s

end Sys2Proof.Machine
end

