-- ==== Sys2Proof/Machine/System.lean ====
section
/-! DEFINITION. The system instructions and the illegal opcodes (46 R290 to R296). -/
namespace Sys2Proof.Machine

/-- `EI` on the CPU (46 R294): one instruction late, or at once when the parameter says so; "executed when `IME` is
already 1 changes nothing", so that nothing is pending at a dispatch (60 R313). DEDUCED (log 25): the rule's pseudocode
does not except that case. -/
def Cpu.enableInterrupts (delay : Bool) (c : Cpu) : Cpu :=
  if c.ime then c else if delay then { c with eiPending := true } else { c with ime := true }

/-- `EI` (46 R294), by the parameter `EI_DELAY`. -/
def enableInterrupts (s : State) : Access Unit := .ok () (s.onCpu (Cpu.enableInterrupts s.cfg.eiDelay))

/-- `NOP` (0x00; 46 R290). -/
def execNop (s : State) : Answer := runOp 1 4 (cpuOnly id) s

/-- `HALT` (0x76; 46 R291). -/
def execHalt (s : State) : Answer := runOp 1 4 (cpuOnly fun c => { c with runState := .halted }) s

/-- `STOP` (0x10; 46 R292); its second byte is fetched and ignored (30 R133, log 12). -/
def execStop (_n8 : Byte) (s : State) : Answer := runOp 2 4 (cpuOnly fun c => { c with runState := .stopped }) s

/-- `DI` (0xF3; 46 R293). -/
def execDi (s : State) : Answer := runOp 1 4 (cpuOnly fun c => { c with ime := false, eiPending := false }) s

/-- `EI` (0xFB; 46 R294). -/
def execEi (s : State) : Answer := runOp 1 4 enableInterrupts s

/-- `ILLEGAL_D3` (0xD3; 46 R296). -/
def execIllegal_D3 (s : State) : Answer := raiseUnimplemented .xD3 s

/-- `ILLEGAL_DB` (0xDB; 46 R296). -/
def execIllegal_DB (s : State) : Answer := raiseUnimplemented .xDB s

/-- `ILLEGAL_DD` (0xDD; 46 R296). -/
def execIllegal_DD (s : State) : Answer := raiseUnimplemented .xDD s

/-- `ILLEGAL_E3` (0xE3; 46 R296). -/
def execIllegal_E3 (s : State) : Answer := raiseUnimplemented .xE3 s

/-- `ILLEGAL_E4` (0xE4; 46 R296). -/
def execIllegal_E4 (s : State) : Answer := raiseUnimplemented .xE4 s

/-- `ILLEGAL_EB` (0xEB; 46 R296). -/
def execIllegal_EB (s : State) : Answer := raiseUnimplemented .xEB s

/-- `ILLEGAL_EC` (0xEC; 46 R296). -/
def execIllegal_EC (s : State) : Answer := raiseUnimplemented .xEC s

/-- `ILLEGAL_ED` (0xED; 46 R296). -/
def execIllegal_ED (s : State) : Answer := raiseUnimplemented .xED s

/-- `ILLEGAL_F4` (0xF4; 46 R296). -/
def execIllegal_F4 (s : State) : Answer := raiseUnimplemented .xF4 s

/-- `ILLEGAL_FC` (0xFC; 46 R296). -/
def execIllegal_FC (s : State) : Answer := raiseUnimplemented .xFC s

/-- `ILLEGAL_FD` (0xFD; 46 R296). -/
def execIllegal_FD (s : State) : Answer := raiseUnimplemented .xFD s

end Sys2Proof.Machine
end

