-- ==== Sys2Proof/Decode.lean ====
section
/-! DEFINITION. The decoder, from the opcode map by fields (30 R120 to R133), and the encoder, from the map row
by row (30 R130, R131). -/
namespace Sys2Proof

/-! ### The rows of one shape, by operand (30 R124 to R126) -/

/-- `LD r,r'` (40 R150): destination, source. -/
def Instr.ldRR : R8 → R8 → Instr
  | .b, .b => .ld_B_B
  | .b, .c => .ld_B_C
  | .b, .d => .ld_B_D
  | .b, .e => .ld_B_E
  | .b, .h => .ld_B_H
  | .b, .l => .ld_B_L
  | .b, .a => .ld_B_A
  | .c, .b => .ld_C_B
  | .c, .c => .ld_C_C
  | .c, .d => .ld_C_D
  | .c, .e => .ld_C_E
  | .c, .h => .ld_C_H
  | .c, .l => .ld_C_L
  | .c, .a => .ld_C_A
  | .d, .b => .ld_D_B
  | .d, .c => .ld_D_C
  | .d, .d => .ld_D_D
  | .d, .e => .ld_D_E
  | .d, .h => .ld_D_H
  | .d, .l => .ld_D_L
  | .d, .a => .ld_D_A
  | .e, .b => .ld_E_B
  | .e, .c => .ld_E_C
  | .e, .d => .ld_E_D
  | .e, .e => .ld_E_E
  | .e, .h => .ld_E_H
  | .e, .l => .ld_E_L
  | .e, .a => .ld_E_A
  | .h, .b => .ld_H_B
  | .h, .c => .ld_H_C
  | .h, .d => .ld_H_D
  | .h, .e => .ld_H_E
  | .h, .h => .ld_H_H
  | .h, .l => .ld_H_L
  | .h, .a => .ld_H_A
  | .l, .b => .ld_L_B
  | .l, .c => .ld_L_C
  | .l, .d => .ld_L_D
  | .l, .e => .ld_L_E
  | .l, .h => .ld_L_H
  | .l, .l => .ld_L_L
  | .l, .a => .ld_L_A
  | .a, .b => .ld_A_B
  | .a, .c => .ld_A_C
  | .a, .d => .ld_A_D
  | .a, .e => .ld_A_E
  | .a, .h => .ld_A_H
  | .a, .l => .ld_A_L
  | .a, .a => .ld_A_A

/-- `LD r,d8` (40 R151). -/
def Instr.ldRImm : R8 → Byte → Instr
  | .b, n8 => .ld_B_d8 n8
  | .c, n8 => .ld_C_d8 n8
  | .d, n8 => .ld_D_d8 n8
  | .e, n8 => .ld_E_d8 n8
  | .h, n8 => .ld_H_d8 n8
  | .l, n8 => .ld_L_d8 n8
  | .a, n8 => .ld_A_d8 n8

/-- `LD r,(HL)` (40 R152). -/
def Instr.ldRHl : R8 → Instr
  | .b => .ld_B_atHL
  | .c => .ld_C_atHL
  | .d => .ld_D_atHL
  | .e => .ld_E_atHL
  | .h => .ld_H_atHL
  | .l => .ld_L_atHL
  | .a => .ld_A_atHL

/-- `LD (HL),r` (40 R153). -/
def Instr.ldHlR : R8 → Instr
  | .b => .ld_atHL_B
  | .c => .ld_atHL_C
  | .d => .ld_atHL_D
  | .e => .ld_atHL_E
  | .h => .ld_atHL_H
  | .l => .ld_atHL_L
  | .a => .ld_atHL_A

/-- `LD rp,d16` (41 R180). -/
def Instr.ldRpImm : Rp → Word → Instr
  | .bc, n16 => .ld_BC_d16 n16
  | .de, n16 => .ld_DE_d16 n16
  | .hl, n16 => .ld_HL_d16 n16
  | .sp, n16 => .ld_SP_d16 n16

/-- `PUSH rp2` (41 R184). -/
def Instr.pushRp2 : Rp2 → Instr
  | .bc => .push_BC
  | .de => .push_DE
  | .hl => .push_HL
  | .af => .push_AF

/-- `POP rp2` (41 R185) and `POP AF` (41 R186). -/
def Instr.popRp2 : Rp2 → Instr
  | .bc => .pop_BC
  | .de => .pop_DE
  | .hl => .pop_HL
  | .af => .pop_AF

/-- `alu[y] r8[z]`, register form (42 R200). -/
def Instr.aluR : AluOp → R8 → Instr
  | .add, .b => .add_A_B
  | .add, .c => .add_A_C
  | .add, .d => .add_A_D
  | .add, .e => .add_A_E
  | .add, .h => .add_A_H
  | .add, .l => .add_A_L
  | .add, .a => .add_A_A
  | .adc, .b => .adc_A_B
  | .adc, .c => .adc_A_C
  | .adc, .d => .adc_A_D
  | .adc, .e => .adc_A_E
  | .adc, .h => .adc_A_H
  | .adc, .l => .adc_A_L
  | .adc, .a => .adc_A_A
  | .sub, .b => .sub_B
  | .sub, .c => .sub_C
  | .sub, .d => .sub_D
  | .sub, .e => .sub_E
  | .sub, .h => .sub_H
  | .sub, .l => .sub_L
  | .sub, .a => .sub_A
  | .sbc, .b => .sbc_A_B
  | .sbc, .c => .sbc_A_C
  | .sbc, .d => .sbc_A_D
  | .sbc, .e => .sbc_A_E
  | .sbc, .h => .sbc_A_H
  | .sbc, .l => .sbc_A_L
  | .sbc, .a => .sbc_A_A
  | .and, .b => .and_B
  | .and, .c => .and_C
  | .and, .d => .and_D
  | .and, .e => .and_E
  | .and, .h => .and_H
  | .and, .l => .and_L
  | .and, .a => .and_A
  | .xor, .b => .xor_B
  | .xor, .c => .xor_C
  | .xor, .d => .xor_D
  | .xor, .e => .xor_E
  | .xor, .h => .xor_H
  | .xor, .l => .xor_L
  | .xor, .a => .xor_A
  | .or, .b => .or_B
  | .or, .c => .or_C
  | .or, .d => .or_D
  | .or, .e => .or_E
  | .or, .h => .or_H
  | .or, .l => .or_L
  | .or, .a => .or_A
  | .cp, .b => .cp_B
  | .cp, .c => .cp_C
  | .cp, .d => .cp_D
  | .cp, .e => .cp_E
  | .cp, .h => .cp_H
  | .cp, .l => .cp_L
  | .cp, .a => .cp_A

/-- `alu[y] (HL)`, memory form (42 R200). -/
def Instr.aluHl : AluOp → Instr
  | .add => .add_A_atHL
  | .adc => .adc_A_atHL
  | .sub => .sub_atHL
  | .sbc => .sbc_A_atHL
  | .and => .and_atHL
  | .xor => .xor_atHL
  | .or => .or_atHL
  | .cp => .cp_atHL

/-- `alu[y] d8`, immediate form (42 R200). -/
def Instr.aluImm : AluOp → Byte → Instr
  | .add, n8 => .add_A_d8 n8
  | .adc, n8 => .adc_A_d8 n8
  | .sub, n8 => .sub_d8 n8
  | .sbc, n8 => .sbc_A_d8 n8
  | .and, n8 => .and_d8 n8
  | .xor, n8 => .xor_d8 n8
  | .or, n8 => .or_d8 n8
  | .cp, n8 => .cp_d8 n8

/-- `INC r` (42 R209). -/
def Instr.incR : R8 → Instr
  | .b => .inc_B
  | .c => .inc_C
  | .d => .inc_D
  | .e => .inc_E
  | .h => .inc_H
  | .l => .inc_L
  | .a => .inc_A

/-- `DEC r` (42 R211). -/
def Instr.decR : R8 → Instr
  | .b => .dec_B
  | .c => .dec_C
  | .d => .dec_D
  | .e => .dec_E
  | .h => .dec_H
  | .l => .dec_L
  | .a => .dec_A

/-- `ADD HL,rp` (43 R230). -/
def Instr.addHlRp : Rp → Instr
  | .bc => .add_HL_BC
  | .de => .add_HL_DE
  | .hl => .add_HL_HL
  | .sp => .add_HL_SP

/-- `INC rp` (43 R231). -/
def Instr.incRp : Rp → Instr
  | .bc => .inc_BC
  | .de => .inc_DE
  | .hl => .inc_HL
  | .sp => .inc_SP

/-- `DEC rp` (43 R232). -/
def Instr.decRp : Rp → Instr
  | .bc => .dec_BC
  | .de => .dec_DE
  | .hl => .dec_HL
  | .sp => .dec_SP

/-- `rot[y] r8[z]` on a register (44 R245 to R252). -/
def Instr.rotR : RotOp → R8 → Instr
  | .rlc, .b => .rlc_B
  | .rlc, .c => .rlc_C
  | .rlc, .d => .rlc_D
  | .rlc, .e => .rlc_E
  | .rlc, .h => .rlc_H
  | .rlc, .l => .rlc_L
  | .rlc, .a => .rlc_A
  | .rrc, .b => .rrc_B
  | .rrc, .c => .rrc_C
  | .rrc, .d => .rrc_D
  | .rrc, .e => .rrc_E
  | .rrc, .h => .rrc_H
  | .rrc, .l => .rrc_L
  | .rrc, .a => .rrc_A
  | .rl, .b => .rl_B
  | .rl, .c => .rl_C
  | .rl, .d => .rl_D
  | .rl, .e => .rl_E
  | .rl, .h => .rl_H
  | .rl, .l => .rl_L
  | .rl, .a => .rl_A
  | .rr, .b => .rr_B
  | .rr, .c => .rr_C
  | .rr, .d => .rr_D
  | .rr, .e => .rr_E
  | .rr, .h => .rr_H
  | .rr, .l => .rr_L
  | .rr, .a => .rr_A
  | .sla, .b => .sla_B
  | .sla, .c => .sla_C
  | .sla, .d => .sla_D
  | .sla, .e => .sla_E
  | .sla, .h => .sla_H
  | .sla, .l => .sla_L
  | .sla, .a => .sla_A
  | .sra, .b => .sra_B
  | .sra, .c => .sra_C
  | .sra, .d => .sra_D
  | .sra, .e => .sra_E
  | .sra, .h => .sra_H
  | .sra, .l => .sra_L
  | .sra, .a => .sra_A
  | .swap, .b => .swap_B
  | .swap, .c => .swap_C
  | .swap, .d => .swap_D
  | .swap, .e => .swap_E
  | .swap, .h => .swap_H
  | .swap, .l => .swap_L
  | .swap, .a => .swap_A
  | .srl, .b => .srl_B
  | .srl, .c => .srl_C
  | .srl, .d => .srl_D
  | .srl, .e => .srl_E
  | .srl, .h => .srl_H
  | .srl, .l => .srl_L
  | .srl, .a => .srl_A

/-- `rot[y] (HL)` (44 R245 to R252). -/
def Instr.rotHl : RotOp → Instr
  | .rlc => .rlc_atHL
  | .rrc => .rrc_atHL
  | .rl => .rl_atHL
  | .rr => .rr_atHL
  | .sla => .sla_atHL
  | .sra => .sra_atHL
  | .swap => .swap_atHL
  | .srl => .srl_atHL

/-- `BIT b` (44 R253) on a register. -/
def Instr.bitR : Oct → R8 → Instr
  | .o0, .b => .bit_0_B
  | .o0, .c => .bit_0_C
  | .o0, .d => .bit_0_D
  | .o0, .e => .bit_0_E
  | .o0, .h => .bit_0_H
  | .o0, .l => .bit_0_L
  | .o0, .a => .bit_0_A
  | .o1, .b => .bit_1_B
  | .o1, .c => .bit_1_C
  | .o1, .d => .bit_1_D
  | .o1, .e => .bit_1_E
  | .o1, .h => .bit_1_H
  | .o1, .l => .bit_1_L
  | .o1, .a => .bit_1_A
  | .o2, .b => .bit_2_B
  | .o2, .c => .bit_2_C
  | .o2, .d => .bit_2_D
  | .o2, .e => .bit_2_E
  | .o2, .h => .bit_2_H
  | .o2, .l => .bit_2_L
  | .o2, .a => .bit_2_A
  | .o3, .b => .bit_3_B
  | .o3, .c => .bit_3_C
  | .o3, .d => .bit_3_D
  | .o3, .e => .bit_3_E
  | .o3, .h => .bit_3_H
  | .o3, .l => .bit_3_L
  | .o3, .a => .bit_3_A
  | .o4, .b => .bit_4_B
  | .o4, .c => .bit_4_C
  | .o4, .d => .bit_4_D
  | .o4, .e => .bit_4_E
  | .o4, .h => .bit_4_H
  | .o4, .l => .bit_4_L
  | .o4, .a => .bit_4_A
  | .o5, .b => .bit_5_B
  | .o5, .c => .bit_5_C
  | .o5, .d => .bit_5_D
  | .o5, .e => .bit_5_E
  | .o5, .h => .bit_5_H
  | .o5, .l => .bit_5_L
  | .o5, .a => .bit_5_A
  | .o6, .b => .bit_6_B
  | .o6, .c => .bit_6_C
  | .o6, .d => .bit_6_D
  | .o6, .e => .bit_6_E
  | .o6, .h => .bit_6_H
  | .o6, .l => .bit_6_L
  | .o6, .a => .bit_6_A
  | .o7, .b => .bit_7_B
  | .o7, .c => .bit_7_C
  | .o7, .d => .bit_7_D
  | .o7, .e => .bit_7_E
  | .o7, .h => .bit_7_H
  | .o7, .l => .bit_7_L
  | .o7, .a => .bit_7_A

/-- `BIT b` (44 R253) on `(HL)`. -/
def Instr.bitHl : Oct → Instr
  | .o0 => .bit_0_atHL
  | .o1 => .bit_1_atHL
  | .o2 => .bit_2_atHL
  | .o3 => .bit_3_atHL
  | .o4 => .bit_4_atHL
  | .o5 => .bit_5_atHL
  | .o6 => .bit_6_atHL
  | .o7 => .bit_7_atHL

/-- `RES b` (44 R254) on a register. -/
def Instr.resR : Oct → R8 → Instr
  | .o0, .b => .res_0_B
  | .o0, .c => .res_0_C
  | .o0, .d => .res_0_D
  | .o0, .e => .res_0_E
  | .o0, .h => .res_0_H
  | .o0, .l => .res_0_L
  | .o0, .a => .res_0_A
  | .o1, .b => .res_1_B
  | .o1, .c => .res_1_C
  | .o1, .d => .res_1_D
  | .o1, .e => .res_1_E
  | .o1, .h => .res_1_H
  | .o1, .l => .res_1_L
  | .o1, .a => .res_1_A
  | .o2, .b => .res_2_B
  | .o2, .c => .res_2_C
  | .o2, .d => .res_2_D
  | .o2, .e => .res_2_E
  | .o2, .h => .res_2_H
  | .o2, .l => .res_2_L
  | .o2, .a => .res_2_A
  | .o3, .b => .res_3_B
  | .o3, .c => .res_3_C
  | .o3, .d => .res_3_D
  | .o3, .e => .res_3_E
  | .o3, .h => .res_3_H
  | .o3, .l => .res_3_L
  | .o3, .a => .res_3_A
  | .o4, .b => .res_4_B
  | .o4, .c => .res_4_C
  | .o4, .d => .res_4_D
  | .o4, .e => .res_4_E
  | .o4, .h => .res_4_H
  | .o4, .l => .res_4_L
  | .o4, .a => .res_4_A
  | .o5, .b => .res_5_B
  | .o5, .c => .res_5_C
  | .o5, .d => .res_5_D
  | .o5, .e => .res_5_E
  | .o5, .h => .res_5_H
  | .o5, .l => .res_5_L
  | .o5, .a => .res_5_A
  | .o6, .b => .res_6_B
  | .o6, .c => .res_6_C
  | .o6, .d => .res_6_D
  | .o6, .e => .res_6_E
  | .o6, .h => .res_6_H
  | .o6, .l => .res_6_L
  | .o6, .a => .res_6_A
  | .o7, .b => .res_7_B
  | .o7, .c => .res_7_C
  | .o7, .d => .res_7_D
  | .o7, .e => .res_7_E
  | .o7, .h => .res_7_H
  | .o7, .l => .res_7_L
  | .o7, .a => .res_7_A

/-- `RES b` (44 R254) on `(HL)`. -/
def Instr.resHl : Oct → Instr
  | .o0 => .res_0_atHL
  | .o1 => .res_1_atHL
  | .o2 => .res_2_atHL
  | .o3 => .res_3_atHL
  | .o4 => .res_4_atHL
  | .o5 => .res_5_atHL
  | .o6 => .res_6_atHL
  | .o7 => .res_7_atHL

/-- `SET b` (44 R255) on a register. -/
def Instr.setR : Oct → R8 → Instr
  | .o0, .b => .set_0_B
  | .o0, .c => .set_0_C
  | .o0, .d => .set_0_D
  | .o0, .e => .set_0_E
  | .o0, .h => .set_0_H
  | .o0, .l => .set_0_L
  | .o0, .a => .set_0_A
  | .o1, .b => .set_1_B
  | .o1, .c => .set_1_C
  | .o1, .d => .set_1_D
  | .o1, .e => .set_1_E
  | .o1, .h => .set_1_H
  | .o1, .l => .set_1_L
  | .o1, .a => .set_1_A
  | .o2, .b => .set_2_B
  | .o2, .c => .set_2_C
  | .o2, .d => .set_2_D
  | .o2, .e => .set_2_E
  | .o2, .h => .set_2_H
  | .o2, .l => .set_2_L
  | .o2, .a => .set_2_A
  | .o3, .b => .set_3_B
  | .o3, .c => .set_3_C
  | .o3, .d => .set_3_D
  | .o3, .e => .set_3_E
  | .o3, .h => .set_3_H
  | .o3, .l => .set_3_L
  | .o3, .a => .set_3_A
  | .o4, .b => .set_4_B
  | .o4, .c => .set_4_C
  | .o4, .d => .set_4_D
  | .o4, .e => .set_4_E
  | .o4, .h => .set_4_H
  | .o4, .l => .set_4_L
  | .o4, .a => .set_4_A
  | .o5, .b => .set_5_B
  | .o5, .c => .set_5_C
  | .o5, .d => .set_5_D
  | .o5, .e => .set_5_E
  | .o5, .h => .set_5_H
  | .o5, .l => .set_5_L
  | .o5, .a => .set_5_A
  | .o6, .b => .set_6_B
  | .o6, .c => .set_6_C
  | .o6, .d => .set_6_D
  | .o6, .e => .set_6_E
  | .o6, .h => .set_6_H
  | .o6, .l => .set_6_L
  | .o6, .a => .set_6_A
  | .o7, .b => .set_7_B
  | .o7, .c => .set_7_C
  | .o7, .d => .set_7_D
  | .o7, .e => .set_7_E
  | .o7, .h => .set_7_H
  | .o7, .l => .set_7_L
  | .o7, .a => .set_7_A

/-- `SET b` (44 R255) on `(HL)`. -/
def Instr.setHl : Oct → Instr
  | .o0 => .set_0_atHL
  | .o1 => .set_1_atHL
  | .o2 => .set_2_atHL
  | .o3 => .set_3_atHL
  | .o4 => .set_4_atHL
  | .o5 => .set_5_atHL
  | .o6 => .set_6_atHL
  | .o7 => .set_7_atHL

/-- `JP cc,a16` (45 R272). -/
def Instr.jpCc : Cond → Word → Instr
  | .nz, n16 => .jp_NZ_a16 n16
  | .z, n16 => .jp_Z_a16 n16
  | .nc, n16 => .jp_NC_a16 n16
  | .c, n16 => .jp_C_a16 n16

/-- `JR cc,e8` (45 R275). -/
def Instr.jrCc : Cond → Byte → Instr
  | .nz, n8 => .jr_NZ_e8 n8
  | .z, n8 => .jr_Z_e8 n8
  | .nc, n8 => .jr_NC_e8 n8
  | .c, n8 => .jr_C_e8 n8

/-- `CALL cc,a16` (45 R277). -/
def Instr.callCc : Cond → Word → Instr
  | .nz, n16 => .call_NZ_a16 n16
  | .z, n16 => .call_Z_a16 n16
  | .nc, n16 => .call_NC_a16 n16
  | .c, n16 => .call_C_a16 n16

/-- `RET cc` (45 R279). -/
def Instr.retCc : Cond → Instr
  | .nz => .ret_NZ
  | .z => .ret_Z
  | .nc => .ret_NC
  | .c => .ret_C

/-- `RST y*8` (45 R281). -/
def Instr.rst : Oct → Instr
  | .o0 => .rst_00
  | .o1 => .rst_08
  | .o2 => .rst_10
  | .o3 => .rst_18
  | .o4 => .rst_20
  | .o5 => .rst_28
  | .o6 => .rst_30
  | .o7 => .rst_38

/-- The illegal opcodes (46 R296). -/
def Instr.illegal : IllegalOp → Instr
  | .xD3 => .illegal_D3
  | .xDB => .illegal_DB
  | .xDD => .illegal_DD
  | .xE3 => .illegal_E3
  | .xE4 => .illegal_E4
  | .xEB => .illegal_EB
  | .xEC => .illegal_EC
  | .xED => .illegal_ED
  | .xF4 => .illegal_F4
  | .xFC => .illegal_FC
  | .xFD => .illegal_FD

/-! ### Opcode fields (30 R123) and operand tables (30 R124 to R126) -/

/-- `x = op[7:6]`. -/
def fieldX (op : Byte) : Nat := op.toNat / 64

/-- `y = op[5:3]`. -/
def fieldY (op : Byte) : Nat := op.toNat / 8 % 8

/-- `z = op[2:0]`. -/
def fieldZ (op : Byte) : Nat := op.toNat % 8

/-- `r8[i]` (30 R124): a register, or `none` for index 6, the byte at `(HL)`. -/
def r8Of : Nat → Option R8
  | 0 => some .b
  | 1 => some .c
  | 2 => some .d
  | 3 => some .e
  | 4 => some .h
  | 5 => some .l
  | 7 => some .a
  | _ => none

/-- `rp[p]` (30 R124), with `p` the high two bits of `y`. -/
def rpOf (p : Nat) : Rp :=
  match p with
  | 0 => .bc
  | 1 => .de
  | 2 => .hl
  | _ => .sp

/-- `rp2[p]` (30 R124). -/
def rp2Of (p : Nat) : Rp2 :=
  match p with
  | 0 => .bc
  | 1 => .de
  | 2 => .hl
  | _ => .af

/-- `cc[i]` (30 R125). -/
def condOf (i : Nat) : Cond :=
  match i with
  | 0 => .nz
  | 1 => .z
  | 2 => .nc
  | _ => .c

/-- `alu[y]` (30 R126). -/
def aluOf (y : Nat) : AluOp :=
  match y with
  | 0 => .add
  | 1 => .adc
  | 2 => .sub
  | 3 => .sbc
  | 4 => .and
  | 5 => .xor
  | 6 => .or
  | _ => .cp

/-- `rot[y]` (30 R126). -/
def rotOf (y : Nat) : RotOp :=
  match y with
  | 0 => .rlc
  | 1 => .rrc
  | 2 => .rl
  | 3 => .rr
  | 4 => .sla
  | 5 => .sra
  | 6 => .swap
  | _ => .srl

/-- The three-bit field of a number. -/
def octOf (y : Nat) : Oct :=
  match y with
  | 0 => .o0
  | 1 => .o1
  | 2 => .o2
  | 3 => .o3
  | 4 => .o4
  | 5 => .o5
  | 6 => .o6
  | _ => .o7

/-! ### The primary table (30 R130), one function per value of `x` -/

/-- Rows with `x = 0`, `z = 0`. -/
def decodeX0Z0 (y : Nat) (n8 : Byte) (n16 : Word) : Instr :=
  match y with
  | 0 => .nop
  | 1 => .ld_atA16_SP n16
  | 2 => .stop n8
  | 3 => .jr_e8 n8
  | _ => .jrCc (condOf (y - 4)) n8

/-- Rows with `x = 0`, `z = 2`: the indirect loads of 30 R124. -/
def decodeX0Z2 (y : Nat) : Instr :=
  match y with
  | 0 => .ld_atBC_A
  | 1 => .ld_A_atBC
  | 2 => .ld_atDE_A
  | 3 => .ld_A_atDE
  | 4 => .ld_atHLI_A
  | 5 => .ld_A_atHLI
  | 6 => .ld_atHLD_A
  | _ => .ld_A_atHLD

/-- Rows with `x = 0`, `z = 7`. -/
def decodeX0Z7 (y : Nat) : Instr :=
  match y with
  | 0 => .rlca
  | 1 => .rrca
  | 2 => .rla
  | 3 => .rra
  | 4 => .daa
  | 5 => .cpl
  | 6 => .scf
  | _ => .ccf

/-- Rows with `x = 0`. -/
def decodeX0 (y z : Nat) (n8 : Byte) (n16 : Word) : Instr :=
  match z with
  | 0 => decodeX0Z0 y n8 n16
  | 1 => if y % 2 = 0 then .ldRpImm (rpOf (y / 2)) n16 else .addHlRp (rpOf (y / 2))
  | 2 => decodeX0Z2 y
  | 3 => if y % 2 = 0 then .incRp (rpOf (y / 2)) else .decRp (rpOf (y / 2))
  | 4 => match r8Of y with
         | some r => .incR r
         | none => .inc_atHL
  | 5 => match r8Of y with
         | some r => .decR r
         | none => .dec_atHL
  | 6 => match r8Of y with
         | some r => .ldRImm r n8
         | none => .ld_atHL_d8 n8
  | _ => decodeX0Z7 y

/-- Rows with `x = 1`: the loads, and `HALT` in the slot of `LD (HL),(HL)` (30 R133). -/
def decodeX1 (y z : Nat) : Instr :=
  match r8Of y, r8Of z with
  | some dst, some src => .ldRR dst src
  | some dst, none => .ldRHl dst
  | none, some src => .ldHlR src
  | none, none => .halt

/-- Rows with `x = 2`: the ALU on a register or `(HL)`. -/
def decodeX2 (y z : Nat) : Instr :=
  match r8Of z with
  | some r => .aluR (aluOf y) r
  | none => .aluHl (aluOf y)

/-- Rows with `x = 3`, `z = 0`. -/
def decodeX3Z0 (y : Nat) (n8 : Byte) : Instr :=
  match y with
  | 4 => .ldh_atA8_A n8
  | 5 => .add_SP_e8 n8
  | 6 => .ldh_A_atA8 n8
  | 7 => .ld_HL_SP_e8 n8
  | _ => .retCc (condOf y)

/-- Rows with `x = 3`, `z = 1`. -/
def decodeX3Z1 (y : Nat) : Instr :=
  match y with
  | 1 => .ret
  | 3 => .reti
  | 5 => .jp_HL
  | 7 => .ld_SP_HL
  | _ => .popRp2 (rp2Of (y / 2))

/-- Rows with `x = 3`, `z = 2`. -/
def decodeX3Z2 (y : Nat) (n16 : Word) : Instr :=
  match y with
  | 4 => .ld_atC_A
  | 5 => .ld_atA16_A n16
  | 6 => .ld_A_atC
  | 7 => .ld_A_atA16 n16
  | _ => .jpCc (condOf y) n16

/-! ### The secondary table (30 R131) -/

/-- The instruction of a second opcode byte after the prefix 0xCB (30 R131, 46 R295). -/
def decodeCb (op2 : Byte) : Instr :=
  match fieldX op2, r8Of (fieldZ op2) with
  | 0, some r => .rotR (rotOf (fieldY op2)) r
  | 0, none => .rotHl (rotOf (fieldY op2))
  | 1, some r => .bitR (octOf (fieldY op2)) r
  | 1, none => .bitHl (octOf (fieldY op2))
  | 2, some r => .resR (octOf (fieldY op2)) r
  | 2, none => .resHl (octOf (fieldY op2))
  | _, some r => .setR (octOf (fieldY op2)) r
  | _, none => .setHl (octOf (fieldY op2))

/-- Rows with `x = 3`, `z = 3`; `n8` is the second byte, the index of the secondary table when `y = 1`. -/
def decodeX3Z3 (y : Nat) (n8 : Byte) (n16 : Word) : Instr :=
  match y with
  | 0 => .jp_a16 n16
  | 1 => decodeCb n8
  | 2 => .illegal_D3
  | 3 => .illegal_DB
  | 4 => .illegal_E3
  | 5 => .illegal_EB
  | 6 => .di
  | _ => .ei

/-- Rows with `x = 3`, `z = 4`. -/
def decodeX3Z4 (y : Nat) (n16 : Word) : Instr :=
  match y with
  | 4 => .illegal_E4
  | 5 => .illegal_EC
  | 6 => .illegal_F4
  | 7 => .illegal_FC
  | _ => .callCc (condOf y) n16

/-- Rows with `x = 3`, `z = 5`. -/
def decodeX3Z5 (y : Nat) (n16 : Word) : Instr :=
  match y with
  | 1 => .call_a16 n16
  | 3 => .illegal_DD
  | 5 => .illegal_ED
  | 7 => .illegal_FD
  | _ => .pushRp2 (rp2Of (y / 2))

/-- Rows with `x = 3`. -/
def decodeX3 (y z : Nat) (n8 : Byte) (n16 : Word) : Instr :=
  match z with
  | 0 => decodeX3Z0 y n8
  | 1 => decodeX3Z1 y
  | 2 => decodeX3Z2 y n16
  | 3 => decodeX3Z3 y n8 n16
  | 4 => decodeX3Z4 y n16
  | 5 => decodeX3Z5 y n16
  | 6 => .aluImm (aluOf y) n8
  | _ => .rst (octOf y)

/-- The instruction of an opcode byte and the two bytes after it, of which it uses as many as its length says
(30 R121, R130): the second byte is `n8`, the two together are `n16`, low byte first (30 R128). -/
def decodeOp (op b1 b2 : Byte) : Instr :=
  match fieldX op with
  | 0 => decodeX0 (fieldY op) (fieldZ op) b1 (wordOf b2 b1)
  | 1 => decodeX1 (fieldY op) (fieldZ op)
  | 2 => decodeX2 (fieldY op) (fieldZ op)
  | _ => decodeX3 (fieldY op) (fieldZ op) b1 (wordOf b2 b1)

/-! ### Lengths (30 R120) -/

/-- The length of rows with `x = 0` (column `len` of 30 R130). -/
def lengthX0 (y z : Nat) : Nat :=
  match z with
  | 0 => if y = 0 then 1 else if y = 1 then 3 else 2
  | 1 => if y % 2 = 0 then 3 else 1
  | 6 => 2
  | _ => 1

/-- The length of rows with `x = 3` (column `len` of 30 R130); an illegal opcode is one byte, no operand of it is
read (46 R296). -/
def lengthX3 (y z : Nat) : Nat :=
  match z with
  | 0 => if y < 4 then 1 else 2
  | 2 => if y = 4 ∨ y = 6 then 1 else 3
  | 3 => if y = 0 then 3 else if y = 1 then 2 else 1
  | 4 => if y < 4 then 3 else 1
  | 5 => if y = 1 then 3 else 1
  | 6 => 2
  | _ => 1

/-- The length in bytes of the instruction with a first byte (30 R120: "a decoder tells the length from the
first byte alone"). -/
def opLength (op : Byte) : Nat :=
  match fieldX op with
  | 0 => lengthX0 (fieldY op) (fieldZ op)
  | 3 => lengthX3 (fieldY op) (fieldZ op)
  | _ => 1

/-! ### The decoder on bytes -/

/-- Why bytes are no instruction: there are fewer than the instruction is long. There is no other reason: every
first byte is a row of the table (30 R130, R132). -/
inductive DecodeError where
  | truncated (have_ need : Nat)
deriving DecidableEq, Repr

/-- What decoding gives: the instruction and the bytes after it, or a rejection by name. -/
inductive Decoded where
  | instr (i : Instr) (rest : List Byte)
  | rejected (e : DecodeError)
deriving DecidableEq, Repr

/-- Decode the instruction at the head of a list of bytes; total on any bytes. -/
def decode (bytes : List Byte) : Decoded :=
  match bytes with
  | [] => .rejected (.truncated 0 1)
  | op :: tail =>
    if bytes.length < opLength op then .rejected (.truncated bytes.length (opLength op))
    else .instr (decodeOp op (tail.getD 0 0) (tail.getD 1 0)) (bytes.drop (opLength op))

/-! ### The encoder, row by row of opcode_table.json -/

/-- The bytes of an instruction in fetch order (30 R122, R130, R131; the opcode values are the table's). -/
def encode : Instr → List Byte
  | .nop => [0x00]
  | .ld_BC_d16 n16 => [0x01, loByte n16, hiByte n16]
  | .ld_atBC_A => [0x02]
  | .inc_BC => [0x03]
  | .inc_B => [0x04]
  | .dec_B => [0x05]
  | .ld_B_d8 n8 => [0x06, n8]
  | .rlca => [0x07]
  | .ld_atA16_SP n16 => [0x08, loByte n16, hiByte n16]
  | .add_HL_BC => [0x09]
  | .ld_A_atBC => [0x0A]
  | .dec_BC => [0x0B]
  | .inc_C => [0x0C]
  | .dec_C => [0x0D]
  | .ld_C_d8 n8 => [0x0E, n8]
  | .rrca => [0x0F]
  | .stop n8 => [0x10, n8]
  | .ld_DE_d16 n16 => [0x11, loByte n16, hiByte n16]
  | .ld_atDE_A => [0x12]
  | .inc_DE => [0x13]
  | .inc_D => [0x14]
  | .dec_D => [0x15]
  | .ld_D_d8 n8 => [0x16, n8]
  | .rla => [0x17]
  | .jr_e8 n8 => [0x18, n8]
  | .add_HL_DE => [0x19]
  | .ld_A_atDE => [0x1A]
  | .dec_DE => [0x1B]
  | .inc_E => [0x1C]
  | .dec_E => [0x1D]
  | .ld_E_d8 n8 => [0x1E, n8]
  | .rra => [0x1F]
  | .jr_NZ_e8 n8 => [0x20, n8]
  | .ld_HL_d16 n16 => [0x21, loByte n16, hiByte n16]
  | .ld_atHLI_A => [0x22]
  | .inc_HL => [0x23]
  | .inc_H => [0x24]
  | .dec_H => [0x25]
  | .ld_H_d8 n8 => [0x26, n8]
  | .daa => [0x27]
  | .jr_Z_e8 n8 => [0x28, n8]
  | .add_HL_HL => [0x29]
  | .ld_A_atHLI => [0x2A]
  | .dec_HL => [0x2B]
  | .inc_L => [0x2C]
  | .dec_L => [0x2D]
  | .ld_L_d8 n8 => [0x2E, n8]
  | .cpl => [0x2F]
  | .jr_NC_e8 n8 => [0x30, n8]
  | .ld_SP_d16 n16 => [0x31, loByte n16, hiByte n16]
  | .ld_atHLD_A => [0x32]
  | .inc_SP => [0x33]
  | .inc_atHL => [0x34]
  | .dec_atHL => [0x35]
  | .ld_atHL_d8 n8 => [0x36, n8]
  | .scf => [0x37]
  | .jr_C_e8 n8 => [0x38, n8]
  | .add_HL_SP => [0x39]
  | .ld_A_atHLD => [0x3A]
  | .dec_SP => [0x3B]
  | .inc_A => [0x3C]
  | .dec_A => [0x3D]
  | .ld_A_d8 n8 => [0x3E, n8]
  | .ccf => [0x3F]
  | .ld_B_B => [0x40]
  | .ld_B_C => [0x41]
  | .ld_B_D => [0x42]
  | .ld_B_E => [0x43]
  | .ld_B_H => [0x44]
  | .ld_B_L => [0x45]
  | .ld_B_atHL => [0x46]
  | .ld_B_A => [0x47]
  | .ld_C_B => [0x48]
  | .ld_C_C => [0x49]
  | .ld_C_D => [0x4A]
  | .ld_C_E => [0x4B]
  | .ld_C_H => [0x4C]
  | .ld_C_L => [0x4D]
  | .ld_C_atHL => [0x4E]
  | .ld_C_A => [0x4F]
  | .ld_D_B => [0x50]
  | .ld_D_C => [0x51]
  | .ld_D_D => [0x52]
  | .ld_D_E => [0x53]
  | .ld_D_H => [0x54]
  | .ld_D_L => [0x55]
  | .ld_D_atHL => [0x56]
  | .ld_D_A => [0x57]
  | .ld_E_B => [0x58]
  | .ld_E_C => [0x59]
  | .ld_E_D => [0x5A]
  | .ld_E_E => [0x5B]
  | .ld_E_H => [0x5C]
  | .ld_E_L => [0x5D]
  | .ld_E_atHL => [0x5E]
  | .ld_E_A => [0x5F]
  | .ld_H_B => [0x60]
  | .ld_H_C => [0x61]
  | .ld_H_D => [0x62]
  | .ld_H_E => [0x63]
  | .ld_H_H => [0x64]
  | .ld_H_L => [0x65]
  | .ld_H_atHL => [0x66]
  | .ld_H_A => [0x67]
  | .ld_L_B => [0x68]
  | .ld_L_C => [0x69]
  | .ld_L_D => [0x6A]
  | .ld_L_E => [0x6B]
  | .ld_L_H => [0x6C]
  | .ld_L_L => [0x6D]
  | .ld_L_atHL => [0x6E]
  | .ld_L_A => [0x6F]
  | .ld_atHL_B => [0x70]
  | .ld_atHL_C => [0x71]
  | .ld_atHL_D => [0x72]
  | .ld_atHL_E => [0x73]
  | .ld_atHL_H => [0x74]
  | .ld_atHL_L => [0x75]
  | .halt => [0x76]
  | .ld_atHL_A => [0x77]
  | .ld_A_B => [0x78]
  | .ld_A_C => [0x79]
  | .ld_A_D => [0x7A]
  | .ld_A_E => [0x7B]
  | .ld_A_H => [0x7C]
  | .ld_A_L => [0x7D]
  | .ld_A_atHL => [0x7E]
  | .ld_A_A => [0x7F]
  | .add_A_B => [0x80]
  | .add_A_C => [0x81]
  | .add_A_D => [0x82]
  | .add_A_E => [0x83]
  | .add_A_H => [0x84]
  | .add_A_L => [0x85]
  | .add_A_atHL => [0x86]
  | .add_A_A => [0x87]
  | .adc_A_B => [0x88]
  | .adc_A_C => [0x89]
  | .adc_A_D => [0x8A]
  | .adc_A_E => [0x8B]
  | .adc_A_H => [0x8C]
  | .adc_A_L => [0x8D]
  | .adc_A_atHL => [0x8E]
  | .adc_A_A => [0x8F]
  | .sub_B => [0x90]
  | .sub_C => [0x91]
  | .sub_D => [0x92]
  | .sub_E => [0x93]
  | .sub_H => [0x94]
  | .sub_L => [0x95]
  | .sub_atHL => [0x96]
  | .sub_A => [0x97]
  | .sbc_A_B => [0x98]
  | .sbc_A_C => [0x99]
  | .sbc_A_D => [0x9A]
  | .sbc_A_E => [0x9B]
  | .sbc_A_H => [0x9C]
  | .sbc_A_L => [0x9D]
  | .sbc_A_atHL => [0x9E]
  | .sbc_A_A => [0x9F]
  | .and_B => [0xA0]
  | .and_C => [0xA1]
  | .and_D => [0xA2]
  | .and_E => [0xA3]
  | .and_H => [0xA4]
  | .and_L => [0xA5]
  | .and_atHL => [0xA6]
  | .and_A => [0xA7]
  | .xor_B => [0xA8]
  | .xor_C => [0xA9]
  | .xor_D => [0xAA]
  | .xor_E => [0xAB]
  | .xor_H => [0xAC]
  | .xor_L => [0xAD]
  | .xor_atHL => [0xAE]
  | .xor_A => [0xAF]
  | .or_B => [0xB0]
  | .or_C => [0xB1]
  | .or_D => [0xB2]
  | .or_E => [0xB3]
  | .or_H => [0xB4]
  | .or_L => [0xB5]
  | .or_atHL => [0xB6]
  | .or_A => [0xB7]
  | .cp_B => [0xB8]
  | .cp_C => [0xB9]
  | .cp_D => [0xBA]
  | .cp_E => [0xBB]
  | .cp_H => [0xBC]
  | .cp_L => [0xBD]
  | .cp_atHL => [0xBE]
  | .cp_A => [0xBF]
  | .ret_NZ => [0xC0]
  | .pop_BC => [0xC1]
  | .jp_NZ_a16 n16 => [0xC2, loByte n16, hiByte n16]
  | .jp_a16 n16 => [0xC3, loByte n16, hiByte n16]
  | .call_NZ_a16 n16 => [0xC4, loByte n16, hiByte n16]
  | .push_BC => [0xC5]
  | .add_A_d8 n8 => [0xC6, n8]
  | .rst_00 => [0xC7]
  | .ret_Z => [0xC8]
  | .ret => [0xC9]
  | .jp_Z_a16 n16 => [0xCA, loByte n16, hiByte n16]
  | .call_Z_a16 n16 => [0xCC, loByte n16, hiByte n16]
  | .call_a16 n16 => [0xCD, loByte n16, hiByte n16]
  | .adc_A_d8 n8 => [0xCE, n8]
  | .rst_08 => [0xCF]
  | .ret_NC => [0xD0]
  | .pop_DE => [0xD1]
  | .jp_NC_a16 n16 => [0xD2, loByte n16, hiByte n16]
  | .illegal_D3 => [0xD3]
  | .call_NC_a16 n16 => [0xD4, loByte n16, hiByte n16]
  | .push_DE => [0xD5]
  | .sub_d8 n8 => [0xD6, n8]
  | .rst_10 => [0xD7]
  | .ret_C => [0xD8]
  | .reti => [0xD9]
  | .jp_C_a16 n16 => [0xDA, loByte n16, hiByte n16]
  | .illegal_DB => [0xDB]
  | .call_C_a16 n16 => [0xDC, loByte n16, hiByte n16]
  | .illegal_DD => [0xDD]
  | .sbc_A_d8 n8 => [0xDE, n8]
  | .rst_18 => [0xDF]
  | .ldh_atA8_A n8 => [0xE0, n8]
  | .pop_HL => [0xE1]
  | .ld_atC_A => [0xE2]
  | .illegal_E3 => [0xE3]
  | .illegal_E4 => [0xE4]
  | .push_HL => [0xE5]
  | .and_d8 n8 => [0xE6, n8]
  | .rst_20 => [0xE7]
  | .add_SP_e8 n8 => [0xE8, n8]
  | .jp_HL => [0xE9]
  | .ld_atA16_A n16 => [0xEA, loByte n16, hiByte n16]
  | .illegal_EB => [0xEB]
  | .illegal_EC => [0xEC]
  | .illegal_ED => [0xED]
  | .xor_d8 n8 => [0xEE, n8]
  | .rst_28 => [0xEF]
  | .ldh_A_atA8 n8 => [0xF0, n8]
  | .pop_AF => [0xF1]
  | .ld_A_atC => [0xF2]
  | .di => [0xF3]
  | .illegal_F4 => [0xF4]
  | .push_AF => [0xF5]
  | .or_d8 n8 => [0xF6, n8]
  | .rst_30 => [0xF7]
  | .ld_HL_SP_e8 n8 => [0xF8, n8]
  | .ld_SP_HL => [0xF9]
  | .ld_A_atA16 n16 => [0xFA, loByte n16, hiByte n16]
  | .ei => [0xFB]
  | .illegal_FC => [0xFC]
  | .illegal_FD => [0xFD]
  | .cp_d8 n8 => [0xFE, n8]
  | .rst_38 => [0xFF]
  | .rlc_B => [0xCB, 0x00]
  | .rlc_C => [0xCB, 0x01]
  | .rlc_D => [0xCB, 0x02]
  | .rlc_E => [0xCB, 0x03]
  | .rlc_H => [0xCB, 0x04]
  | .rlc_L => [0xCB, 0x05]
  | .rlc_atHL => [0xCB, 0x06]
  | .rlc_A => [0xCB, 0x07]
  | .rrc_B => [0xCB, 0x08]
  | .rrc_C => [0xCB, 0x09]
  | .rrc_D => [0xCB, 0x0A]
  | .rrc_E => [0xCB, 0x0B]
  | .rrc_H => [0xCB, 0x0C]
  | .rrc_L => [0xCB, 0x0D]
  | .rrc_atHL => [0xCB, 0x0E]
  | .rrc_A => [0xCB, 0x0F]
  | .rl_B => [0xCB, 0x10]
  | .rl_C => [0xCB, 0x11]
  | .rl_D => [0xCB, 0x12]
  | .rl_E => [0xCB, 0x13]
  | .rl_H => [0xCB, 0x14]
  | .rl_L => [0xCB, 0x15]
  | .rl_atHL => [0xCB, 0x16]
  | .rl_A => [0xCB, 0x17]
  | .rr_B => [0xCB, 0x18]
  | .rr_C => [0xCB, 0x19]
  | .rr_D => [0xCB, 0x1A]
  | .rr_E => [0xCB, 0x1B]
  | .rr_H => [0xCB, 0x1C]
  | .rr_L => [0xCB, 0x1D]
  | .rr_atHL => [0xCB, 0x1E]
  | .rr_A => [0xCB, 0x1F]
  | .sla_B => [0xCB, 0x20]
  | .sla_C => [0xCB, 0x21]
  | .sla_D => [0xCB, 0x22]
  | .sla_E => [0xCB, 0x23]
  | .sla_H => [0xCB, 0x24]
  | .sla_L => [0xCB, 0x25]
  | .sla_atHL => [0xCB, 0x26]
  | .sla_A => [0xCB, 0x27]
  | .sra_B => [0xCB, 0x28]
  | .sra_C => [0xCB, 0x29]
  | .sra_D => [0xCB, 0x2A]
  | .sra_E => [0xCB, 0x2B]
  | .sra_H => [0xCB, 0x2C]
  | .sra_L => [0xCB, 0x2D]
  | .sra_atHL => [0xCB, 0x2E]
  | .sra_A => [0xCB, 0x2F]
  | .swap_B => [0xCB, 0x30]
  | .swap_C => [0xCB, 0x31]
  | .swap_D => [0xCB, 0x32]
  | .swap_E => [0xCB, 0x33]
  | .swap_H => [0xCB, 0x34]
  | .swap_L => [0xCB, 0x35]
  | .swap_atHL => [0xCB, 0x36]
  | .swap_A => [0xCB, 0x37]
  | .srl_B => [0xCB, 0x38]
  | .srl_C => [0xCB, 0x39]
  | .srl_D => [0xCB, 0x3A]
  | .srl_E => [0xCB, 0x3B]
  | .srl_H => [0xCB, 0x3C]
  | .srl_L => [0xCB, 0x3D]
  | .srl_atHL => [0xCB, 0x3E]
  | .srl_A => [0xCB, 0x3F]
  | .bit_0_B => [0xCB, 0x40]
  | .bit_0_C => [0xCB, 0x41]
  | .bit_0_D => [0xCB, 0x42]
  | .bit_0_E => [0xCB, 0x43]
  | .bit_0_H => [0xCB, 0x44]
  | .bit_0_L => [0xCB, 0x45]
  | .bit_0_atHL => [0xCB, 0x46]
  | .bit_0_A => [0xCB, 0x47]
  | .bit_1_B => [0xCB, 0x48]
  | .bit_1_C => [0xCB, 0x49]
  | .bit_1_D => [0xCB, 0x4A]
  | .bit_1_E => [0xCB, 0x4B]
  | .bit_1_H => [0xCB, 0x4C]
  | .bit_1_L => [0xCB, 0x4D]
  | .bit_1_atHL => [0xCB, 0x4E]
  | .bit_1_A => [0xCB, 0x4F]
  | .bit_2_B => [0xCB, 0x50]
  | .bit_2_C => [0xCB, 0x51]
  | .bit_2_D => [0xCB, 0x52]
  | .bit_2_E => [0xCB, 0x53]
  | .bit_2_H => [0xCB, 0x54]
  | .bit_2_L => [0xCB, 0x55]
  | .bit_2_atHL => [0xCB, 0x56]
  | .bit_2_A => [0xCB, 0x57]
  | .bit_3_B => [0xCB, 0x58]
  | .bit_3_C => [0xCB, 0x59]
  | .bit_3_D => [0xCB, 0x5A]
  | .bit_3_E => [0xCB, 0x5B]
  | .bit_3_H => [0xCB, 0x5C]
  | .bit_3_L => [0xCB, 0x5D]
  | .bit_3_atHL => [0xCB, 0x5E]
  | .bit_3_A => [0xCB, 0x5F]
  | .bit_4_B => [0xCB, 0x60]
  | .bit_4_C => [0xCB, 0x61]
  | .bit_4_D => [0xCB, 0x62]
  | .bit_4_E => [0xCB, 0x63]
  | .bit_4_H => [0xCB, 0x64]
  | .bit_4_L => [0xCB, 0x65]
  | .bit_4_atHL => [0xCB, 0x66]
  | .bit_4_A => [0xCB, 0x67]
  | .bit_5_B => [0xCB, 0x68]
  | .bit_5_C => [0xCB, 0x69]
  | .bit_5_D => [0xCB, 0x6A]
  | .bit_5_E => [0xCB, 0x6B]
  | .bit_5_H => [0xCB, 0x6C]
  | .bit_5_L => [0xCB, 0x6D]
  | .bit_5_atHL => [0xCB, 0x6E]
  | .bit_5_A => [0xCB, 0x6F]
  | .bit_6_B => [0xCB, 0x70]
  | .bit_6_C => [0xCB, 0x71]
  | .bit_6_D => [0xCB, 0x72]
  | .bit_6_E => [0xCB, 0x73]
  | .bit_6_H => [0xCB, 0x74]
  | .bit_6_L => [0xCB, 0x75]
  | .bit_6_atHL => [0xCB, 0x76]
  | .bit_6_A => [0xCB, 0x77]
  | .bit_7_B => [0xCB, 0x78]
  | .bit_7_C => [0xCB, 0x79]
  | .bit_7_D => [0xCB, 0x7A]
  | .bit_7_E => [0xCB, 0x7B]
  | .bit_7_H => [0xCB, 0x7C]
  | .bit_7_L => [0xCB, 0x7D]
  | .bit_7_atHL => [0xCB, 0x7E]
  | .bit_7_A => [0xCB, 0x7F]
  | .res_0_B => [0xCB, 0x80]
  | .res_0_C => [0xCB, 0x81]
  | .res_0_D => [0xCB, 0x82]
  | .res_0_E => [0xCB, 0x83]
  | .res_0_H => [0xCB, 0x84]
  | .res_0_L => [0xCB, 0x85]
  | .res_0_atHL => [0xCB, 0x86]
  | .res_0_A => [0xCB, 0x87]
  | .res_1_B => [0xCB, 0x88]
  | .res_1_C => [0xCB, 0x89]
  | .res_1_D => [0xCB, 0x8A]
  | .res_1_E => [0xCB, 0x8B]
  | .res_1_H => [0xCB, 0x8C]
  | .res_1_L => [0xCB, 0x8D]
  | .res_1_atHL => [0xCB, 0x8E]
  | .res_1_A => [0xCB, 0x8F]
  | .res_2_B => [0xCB, 0x90]
  | .res_2_C => [0xCB, 0x91]
  | .res_2_D => [0xCB, 0x92]
  | .res_2_E => [0xCB, 0x93]
  | .res_2_H => [0xCB, 0x94]
  | .res_2_L => [0xCB, 0x95]
  | .res_2_atHL => [0xCB, 0x96]
  | .res_2_A => [0xCB, 0x97]
  | .res_3_B => [0xCB, 0x98]
  | .res_3_C => [0xCB, 0x99]
  | .res_3_D => [0xCB, 0x9A]
  | .res_3_E => [0xCB, 0x9B]
  | .res_3_H => [0xCB, 0x9C]
  | .res_3_L => [0xCB, 0x9D]
  | .res_3_atHL => [0xCB, 0x9E]
  | .res_3_A => [0xCB, 0x9F]
  | .res_4_B => [0xCB, 0xA0]
  | .res_4_C => [0xCB, 0xA1]
  | .res_4_D => [0xCB, 0xA2]
  | .res_4_E => [0xCB, 0xA3]
  | .res_4_H => [0xCB, 0xA4]
  | .res_4_L => [0xCB, 0xA5]
  | .res_4_atHL => [0xCB, 0xA6]
  | .res_4_A => [0xCB, 0xA7]
  | .res_5_B => [0xCB, 0xA8]
  | .res_5_C => [0xCB, 0xA9]
  | .res_5_D => [0xCB, 0xAA]
  | .res_5_E => [0xCB, 0xAB]
  | .res_5_H => [0xCB, 0xAC]
  | .res_5_L => [0xCB, 0xAD]
  | .res_5_atHL => [0xCB, 0xAE]
  | .res_5_A => [0xCB, 0xAF]
  | .res_6_B => [0xCB, 0xB0]
  | .res_6_C => [0xCB, 0xB1]
  | .res_6_D => [0xCB, 0xB2]
  | .res_6_E => [0xCB, 0xB3]
  | .res_6_H => [0xCB, 0xB4]
  | .res_6_L => [0xCB, 0xB5]
  | .res_6_atHL => [0xCB, 0xB6]
  | .res_6_A => [0xCB, 0xB7]
  | .res_7_B => [0xCB, 0xB8]
  | .res_7_C => [0xCB, 0xB9]
  | .res_7_D => [0xCB, 0xBA]
  | .res_7_E => [0xCB, 0xBB]
  | .res_7_H => [0xCB, 0xBC]
  | .res_7_L => [0xCB, 0xBD]
  | .res_7_atHL => [0xCB, 0xBE]
  | .res_7_A => [0xCB, 0xBF]
  | .set_0_B => [0xCB, 0xC0]
  | .set_0_C => [0xCB, 0xC1]
  | .set_0_D => [0xCB, 0xC2]
  | .set_0_E => [0xCB, 0xC3]
  | .set_0_H => [0xCB, 0xC4]
  | .set_0_L => [0xCB, 0xC5]
  | .set_0_atHL => [0xCB, 0xC6]
  | .set_0_A => [0xCB, 0xC7]
  | .set_1_B => [0xCB, 0xC8]
  | .set_1_C => [0xCB, 0xC9]
  | .set_1_D => [0xCB, 0xCA]
  | .set_1_E => [0xCB, 0xCB]
  | .set_1_H => [0xCB, 0xCC]
  | .set_1_L => [0xCB, 0xCD]
  | .set_1_atHL => [0xCB, 0xCE]
  | .set_1_A => [0xCB, 0xCF]
  | .set_2_B => [0xCB, 0xD0]
  | .set_2_C => [0xCB, 0xD1]
  | .set_2_D => [0xCB, 0xD2]
  | .set_2_E => [0xCB, 0xD3]
  | .set_2_H => [0xCB, 0xD4]
  | .set_2_L => [0xCB, 0xD5]
  | .set_2_atHL => [0xCB, 0xD6]
  | .set_2_A => [0xCB, 0xD7]
  | .set_3_B => [0xCB, 0xD8]
  | .set_3_C => [0xCB, 0xD9]
  | .set_3_D => [0xCB, 0xDA]
  | .set_3_E => [0xCB, 0xDB]
  | .set_3_H => [0xCB, 0xDC]
  | .set_3_L => [0xCB, 0xDD]
  | .set_3_atHL => [0xCB, 0xDE]
  | .set_3_A => [0xCB, 0xDF]
  | .set_4_B => [0xCB, 0xE0]
  | .set_4_C => [0xCB, 0xE1]
  | .set_4_D => [0xCB, 0xE2]
  | .set_4_E => [0xCB, 0xE3]
  | .set_4_H => [0xCB, 0xE4]
  | .set_4_L => [0xCB, 0xE5]
  | .set_4_atHL => [0xCB, 0xE6]
  | .set_4_A => [0xCB, 0xE7]
  | .set_5_B => [0xCB, 0xE8]
  | .set_5_C => [0xCB, 0xE9]
  | .set_5_D => [0xCB, 0xEA]
  | .set_5_E => [0xCB, 0xEB]
  | .set_5_H => [0xCB, 0xEC]
  | .set_5_L => [0xCB, 0xED]
  | .set_5_atHL => [0xCB, 0xEE]
  | .set_5_A => [0xCB, 0xEF]
  | .set_6_B => [0xCB, 0xF0]
  | .set_6_C => [0xCB, 0xF1]
  | .set_6_D => [0xCB, 0xF2]
  | .set_6_E => [0xCB, 0xF3]
  | .set_6_H => [0xCB, 0xF4]
  | .set_6_L => [0xCB, 0xF5]
  | .set_6_atHL => [0xCB, 0xF6]
  | .set_6_A => [0xCB, 0xF7]
  | .set_7_B => [0xCB, 0xF8]
  | .set_7_C => [0xCB, 0xF9]
  | .set_7_D => [0xCB, 0xFA]
  | .set_7_E => [0xCB, 0xFB]
  | .set_7_H => [0xCB, 0xFC]
  | .set_7_L => [0xCB, 0xFD]
  | .set_7_atHL => [0xCB, 0xFE]
  | .set_7_A => [0xCB, 0xFF]

/-! ### The opcode table's numbering -/

/-- The bytes, in fetch order, of an instruction whose bits are numbered as opcode_table.json numbers them
(30 R137: the first two bytes are one 16-bit word with the opcode byte most significant; log 10). A row of one
byte or less has only that byte. Bits above `nbits` are zero. -/
def tableWordBytes (nbits w : Nat) : List Byte :=
  let v := w % 2 ^ nbits
  if nbits ≤ 8 then [BitVec.ofNat 8 v, 0, 0]
  else [BitVec.ofNat 8 (v / 256), BitVec.ofNat 8 v, BitVec.ofNat 8 (v / 65536)]

/-- The instruction the decoder reads from a table word. -/
def decodeTableWord (nbits w : Nat) : Option Instr :=
  match decode (tableWordBytes nbits w) with
  | .instr i _ => some i
  | .rejected _ => none

end Sys2Proof
end

