-- ==== Sys2Proof/Machine/Fetch.lean ====
section
/-! DEFINITION. The fetch of an instruction (30 R121) and the placing of an instruction's bytes where it looks. -/
namespace Sys2Proof.Machine

/-- The fetch: the opcode byte, then as many bytes as it needs, lowest address first; `PC` stays (30 R121). -/
def fetch (s : State) : Access Instr :=
  (readByte s.cpu.pc s).andThen fun op s1 =>
    match opLength op with
    | 1 => .ok (decodeOp op 0 0) s1
    | 2 => (readByte (s.cpu.pc + 1) s1).andThen fun b1 s2 => .ok (decodeOp op b1 0) s2
    | _ => (readByte (s.cpu.pc + 1) s1).andThen fun b1 s2 =>
        (readByte (s.cpu.pc + 2) s2).andThen fun b2 s3 => .ok (decodeOp op b1 b2) s3

/-- Whether the byte a fetch reads at an address is the one a store holds there: not in the unusable region, not
the shaped P1, not in absent or disabled external RAM. -/
def State.holdsCode (s : State) (addr : Word) : Bool :=
  match regionOf addr with
  | .unusable => false
  | .io => decide (addr ≠ 0xFF00)
  | .eram => decide (s.cart.ramSize ≠ 0) && (s.eramIndex addr).isSome
  | .romFixed | .romSwitched | .vram | .wram | .echo | .oam | .hram | .ie => true

/-- Put a byte into the store behind an address, with none of the effects of a bus write. -/
def State.placeByte (s : State) (addr : Word) (v : Byte) : State :=
  let n := addr.toNat
  match regionOf addr with
  | .romFixed => s.setCell .rom n v
  | .romSwitched => s.setCell .rom (s.effectiveBank * 0x4000 + (n - 0x4000)) v
  | .vram => s.setCell .vram (n - 0x8000) v
  | .eram =>
    match s.eramIndex addr with
    | some index => s.setCell .eram index v
    | none => s
  | .wram => s.setCell .wram (n - 0xC000) v
  | .echo => s.setCell .wram (n - 0xE000) v
  | .oam => s.setCell .oam (n - 0xFE00) v
  | .unusable => s
  | .io => s.setIo (n - 0xFF00) v
  | .hram => s.setCell .hram (n - 0xFF80) v
  | .ie => { s with mem := { s.mem with ie := v } }

/-- Three bytes placed at `PC` and after it; where a store cannot hold them there, at 0xC000, with `PC` moved (log 11). -/
def State.placeInstruction (s : State) (b0 b1 b2 : Byte) : State :=
  let pc := s.cpu.pc
  let s1 := if s.holdsCode pc && s.holdsCode (pc + 1) && s.holdsCode (pc + 2) then s
    else s.onCpu fun c => c.setPc 0xC000
  ((s1.placeByte s1.cpu.pc b0).placeByte (s1.cpu.pc + 1) b1).placeByte (s1.cpu.pc + 2) b2

/-- A machine about to fetch, with nothing of the host before it. -/
def State.readyToFetch (s : State) : State :=
  { s with cpu := { s.cpu with runState := .running }, hostPlan := [] }

end Sys2Proof.Machine
end

