-- ==== Sys2Proof/Machine/Boot.lean ====
section
/-! DEFINITION. Boot (70 R400 to R409). -/
namespace Sys2Proof.Machine

/-- The variant that `CART_TYPE_MAP` gives a hardware-type byte (20 R90). -/
def configMbcOf (k : Config) (hwType : Byte) : Option Mbc :=
  match k.cartTypeMap.find? (fun entry => entry.1 == hwType.toNat) with
  | some entry => some entry.2
  | none => none

/-- Store the bytes of a list at their indices. -/
def Memory.writeAll (st : Store) (m : Memory) : List (Nat × Byte) → Memory
  | [] => m
  | c :: rest => Memory.writeAll st (Memory.write st m c.1 c.2) rest

/-- The I/O page after boot: the table of 70 R404, the overrides of `IO_RESET`, and LY at `LY_RESET`. -/
def configBootIo (k : Config) : Memory :=
  Memory.write .io (Memory.writeAll .io [] k.ioReset) ioLY k.lyReset

/-- The stores after boot (70 R404, R405): external RAM holds the save file's bytes, every other RAM byte is
unspecified. -/
def Stores.boot (k : Config) (image : CartImage) : Stores :=
  { Stores.reset with
    rom := image.rom
    eram := match image.save with
      | some bytes => Memory.ofBytes 0 bytes
      | none => []
    io := configBootIo k }

/-- The machine after a boot of a cartridge bound to a variant (70 R406): nothing of the state before survives but
the configuration and the model's own counters and plan (log 23). -/
def State.booted (s : State) (image : CartImage) (mbc : Mbc) : State where
  cfg := s.cfg
  cpu := Cpu.reset
  mem := Stores.boot s.cfg image
  cart := { mbc := mbc, romCode := image.romCode, ramCode := image.ramCode }
  mbc := MbcRegs.reset
  timer := Timer.reset
  video := Video.reset
  audio := Audio.reset
  buttons := Buttons.released
  draws := s.draws
  boots := s.boots + 1
  hostPlan := s.hostPlan

/-- `Boot(ROM, save?)` (70 R406, R407): the cartridge check, then the boot state. A type outside the map stops the
machine before any instruction (60 R303, log 19); an image that breaks the loader's preconditions is refused. -/
def State.boot (s : State) (image : CartImage) : Answer :=
  if image.wellFormed then
    match configMbcOf s.cfg image.hwType with
    | some mbc => .next (s.booted image mbc)
    | none =>
      let s1 := s.booted image .noMbc
      .next { s1 with cpu := { s1.cpu with runState := .faulted (.unsupportedCartridgeType image.hwType) } }
  else .refused .illFormedCartridge

end Sys2Proof.Machine
end

