-- ==== Sys2Proof/Machine/HostMoves.lean ====
section
/-! DEFINITION. The moves of the host (60 R390). A move made where the table of 60 R390 does not allow it has no
effect (log 4). -/
namespace Sys2Proof.Machine

/-- `ResumeFromStop()` (60 R322): only in the stopped state. -/
def State.resumeFromStop (s : State) : State :=
  match s.cpu.runState with
  | .stopped => { s with cpu := { s.cpu with runState := .running } }
  | .running | .halted | .faulted _ => s

/-- The host takes the `n` oldest samples (60 R368). -/
def State.drainSamples (s : State) (n : Nat) : State :=
  { s with audio := { s.audio with ring := s.audio.ring.drop n } }

/-- The host has read the external RAM: a success clears the dirty flag, a failure leaves it set (20 R97). -/
def State.save (s : State) (success : Bool) : State :=
  if success then { s with mbc := { s.mbc with dirty := false } } else s

/-- One move of the host (60 R390). A faulted machine takes no move but a new boot (60 R300, 70 R409). -/
def hostMove (m : HostMove) (s : State) : Answer :=
  match m with
  | .boot image => s.boot image
  | .setButton name pressed => .next (if s.isFaulted then s else s.setButton name pressed)
  | .resumeFromStop => .next s.resumeFromStop
  | .drainSamples n => .next (if s.isFaulted then s else s.drainSamples n)
  | .save success => .next (if s.isFaulted then s else s.save success)

/-- Go on from a next state. -/
def onNext (x : Answer) (f : State → Answer) : Answer :=
  match x with
  | .next s => f s
  | .fault r => .fault r
  | .refused r => .refused r

/-- The moves of the host between two machine steps, in order. -/
def hostMoves : List HostMove → State → Answer
  | [], s => .next s
  | m :: rest, s => onNext (hostMove m s) (hostMoves rest)

/-- The host's turn before a machine step: the next entry of its plan (log 3). -/
def hostTurn (s : State) : Answer :=
  match s.hostPlan with
  | [] => .next s
  | moves :: rest => hostMoves moves { s with hostPlan := rest }

end Sys2Proof.Machine
end

