-- ==== Sys2Proof/Machine/Cycle.lean ====
section
/-! DEFINITION. The machine step (60 R320). -/
namespace Sys2Proof.Machine

/-- `if ei_pending = 1 then (IME <- 1; ei_pending <- 0)` (60 R320, 46 R294). -/
def Cpu.consumeEi (c : Cpu) : Cpu := if c.eiPending then { c with ime := true, eiPending := false } else c

/-- The interrupt test, then the devices' synchronization (60 R320). -/
def testAndSync (s : State) : Answer :=
  ((testInterrupts s).andThen fun _ s1 => .ok () s1.syncDevices).answer

/-- What follows an instruction in its machine step (60 R320): nothing when it stopped the run (60 R300); after `STOP`
the synchronization alone, since no interrupt is tested while the machine is stopped (46 R292, 60 R322, log 22). -/
def afterInstruction (s : State) : Answer :=
  match s.cpu.runState with
  | .faulted _ => .next s
  | .stopped => .next s.syncDevices
  | .running | .halted => testAndSync s

/-- `ExecuteNextInstruction` (30 R121). -/
def executeNext (s : State) : Answer :=
  match fetch s with
  | .ok i s1 => exec i s1
  | .stop info s1 => .next (s1.raise info)

/-- The step of a running CPU (60 R320). -/
def stepRunning (s : State) : Answer := onNext (executeNext (s.onCpu Cpu.consumeEi)) afterInstruction

/-- The step of a halted CPU (60 R320, R321): leave the halted state, or idle. -/
def stepHalted (s : State) : Answer :=
  if s.pending ≠ 0 then testAndSync (s.onCpu fun c => { c with runState := .running })
  else .next (s.onCpu fun c => c.addTicks s.cfg.haltIdleTicks).syncDevices

/-- `Step()` (60 R320). No step exists in the stopped state, where the machine stays as it is (60 R322, log 2), or
in the faulted state, which answers its stop (60 R300, log 1). -/
def machineStep (s : State) : Answer :=
  match s.cpu.runState with
  | .running => stepRunning s
  | .halted => stepHalted s
  | .stopped => .next s
  | .faulted info => .fault info

end Sys2Proof.Machine
end

