-- ==== Sys2Proof/Machine/Step.lean ====
section
/-! DEFINITION. One step: the host's turn (60 R390), then the machine step (60 R320); and the placing of a word
where the next step fetches. -/
namespace Sys2Proof.Machine

/-- One step of the machine: the host's moves, if its plan has any, then `Step()` of 60 R320. -/
def step (s : State) : Answer := onNext (hostTurn s) machineStep

/-- `s` with the instruction whose bits are `w`, numbered as opcode_table.json numbers them (30 R137, log 10), stored
where the next step fetches it (log 11). -/
def State.withFetchWord (s : State) (nbits w : Nat) : State :=
  let bytes := tableWordBytes nbits w
  s.readyToFetch.placeInstruction (bytes.getD 0 0) (bytes.getD 1 0) (bytes.getD 2 0)

end Sys2Proof.Machine
end

