-- ==== Sys2Proof/Safety.lean ====
section
/-! DEFINITION. What counts as a safe run, and the terms the claims use: when an access or a store can go through,
what an instruction leaves alone, which addresses an instruction stores to, and the invariants of the machine. -/
namespace Sys2Proof.Machine

/-! ### Safe states -/

/-- A state is safe when no fatal stop has been raised (60 R300). -/
def State.safe (s : State) : Bool := !s.isFaulted

/-- The state an answer goes on with, when there is one. -/
def Answer.state? (x : Answer) : Option State :=
  match x with
  | .next s => some s
  | .fault _ => none
  | .refused _ => none

/-! ### When an access goes through -/

/-- Every source byte of a DMA copy from a page is backed (20 R80, R101). -/
def State.dmaReady (s : State) (page : Byte) : Bool :=
  (List.range s.cfg.dmaLength).all fun i => s.backed (wordOf page 0 + BitVec.ofNat 16 i)

/-- A store of `v` at an address goes through: the address is backed, and where it is the DMA register so is the
page the copy reads (20 R63, R80, R101). -/
def State.storeReady (s : State) (addr : Word) (v : Byte) : Bool :=
  s.backed addr && (decide (addr ≠ 0xFF46) || s.dmaReady v)

/-- Every fetched byte of the instruction at `PC` is backed: three addresses from `PC` on (30 R121, 20 R101). -/
def State.fetchReady (s : State) : Bool :=
  s.backed s.cpu.pc && s.backed (s.cpu.pc + 1) && s.backed (s.cpu.pc + 2)

/-- Where a store holds the byte a bus address names, and that byte is nothing but storage: video RAM, working RAM
and its echo, the sprite table, high RAM, enabled external RAM. `none` for every other address. -/
def State.plainCell (s : State) (addr : Word) : Option (Store × Nat) :=
  match regionOf addr with
  | .vram => some (.vram, addr.toNat - 0x8000)
  | .wram => some (.wram, addr.toNat - 0xC000)
  | .echo => some (.wram, addr.toNat - 0xE000)
  | .oam => some (.oam, addr.toNat - 0xFE00)
  | .hram => some (.hram, addr.toNat - 0xFF80)
  | .eram => if s.cart.ramSize = 0 then none else (s.eramIndex addr).map fun n => (.eram, n)
  | .romFixed | .romSwitched | .unusable | .io | .ie => none

/-! ### What an instruction leaves alone -/

/-- The state in which a handler of a `len`-byte instruction runs: `PC` already past it (30 R121). -/
def State.advanced (s : State) (len : Nat) : State := s.onCpu fun c => c.setPc (c.pc + BitVec.ofNat 16 len)

/-- The state after an instruction of `len` bytes and `ticks` ticks that changes the CPU by `f` and nothing else. -/
def State.afterCpu (s : State) (len ticks : Nat) (f : Cpu → Cpu) : State :=
  s.onCpu fun c => { f c with pc := c.pc + BitVec.ofNat 16 len, ticks := c.ticks + ticks }

/-- Four flags as the byte `F`, by their bit positions (10 R22, R23). -/
def flagByte (z n h c : Bool) : Byte :=
  (if z then 0x80 else 0) ||| (if n then 0x40 else 0) ||| (if h then 0x20 else 0) ||| (if c then 0x10 else 0)

/-- Everything outside the CPU is as before, but for the model's draw counter. -/
def State.sameOutsideCpu (s t : State) : Prop := t = { s with cpu := t.cpu, draws := t.draws }

/-- The addresses of a push: the byte below `SP` and the one below that (00 R10). -/
def State.pushed (s : State) : List Word := [s.cpu.sp - 1, s.cpu.sp - 2]

/-- The addresses an instruction stores to when it runs from a state: the address its handler uses, by the same
expression (40 R153 to R167, 41 R181, R184, 42 R210, R212, 44 R240 to R255, 45 R276, R277, R281). -/
def storedAddresses (i : Instr) (s : State) : List Word :=
  match i with
  | .ld_atHL_B | .ld_atHL_C | .ld_atHL_D | .ld_atHL_E | .ld_atHL_H | .ld_atHL_L | .ld_atHL_A | .ld_atHL_d8 _
  | .ld_atHLI_A | .ld_atHLD_A | .inc_atHL | .dec_atHL
  | .rlc_atHL | .rrc_atHL | .rl_atHL | .rr_atHL | .sla_atHL | .sra_atHL | .swap_atHL | .srl_atHL
  | .res_0_atHL | .res_1_atHL | .res_2_atHL | .res_3_atHL | .res_4_atHL | .res_5_atHL | .res_6_atHL | .res_7_atHL
  | .set_0_atHL | .set_1_atHL | .set_2_atHL | .set_3_atHL | .set_4_atHL | .set_5_atHL | .set_6_atHL | .set_7_atHL =>
    [s.cpu.hl]
  | .ld_atBC_A => [s.cpu.bc]
  | .ld_atDE_A => [s.cpu.de]
  | .ld_atA16_A n16 => [n16]
  | .ldh_atA8_A n8 => [highPage n8]
  | .ld_atC_A => [highPage s.cpu.c]
  | .ld_atA16_SP n16 => [n16, n16 + 1]
  | .push_BC | .push_DE | .push_HL | .push_AF => s.pushed
  | .call_a16 _ => s.pushed
  | .call_NZ_a16 _ => if condHolds .nz s.cpu.flags then s.pushed else []
  | .call_Z_a16 _ => if condHolds .z s.cpu.flags then s.pushed else []
  | .call_NC_a16 _ => if condHolds .nc s.cpu.flags then s.pushed else []
  | .call_C_a16 _ => if condHolds .c s.cpu.flags then s.pushed else []
  | .rst_00 | .rst_08 | .rst_10 | .rst_18 | .rst_20 | .rst_28 | .rst_30 | .rst_38 => s.pushed
  | _ => []

/-! ### The effects of the arithmetic, in numbers -/

/-- `A` and the flags after `alu[y]` with a second operand, over the integers (42 R200 to R208). -/
def specAlu (op : AluOp) (v : Byte) (c : Cpu) : Cpu :=
  let a := c.a.toNat
  let w := v.toNat
  let cin := bitVal (bit c.f 4)
  let add (k : Nat) : Cpu :=
    { c with
      a := BitVec.ofNat 8 (a + w + k)
      f := flagByte ((a + w + k) % 256 == 0) false (15 < a % 16 + w % 16 + k) (255 < a + w + k) }
  let sub (k : Nat) : Cpu :=
    { c with
      a := BitVec.ofNat 8 (a + 512 - w - k)
      f := flagByte ((a + 512 - w - k) % 256 == 0) true (a % 16 < w % 16 + k) (a < w + k) }
  match op with
  | .add => add 0
  | .adc => add cin
  | .sub => sub 0
  | .sbc => sub cin
  | .cp => { sub 0 with a := c.a }
  | .and => { c with a := c.a &&& v, f := flagByte (c.a &&& v == 0) false true false }
  | .xor => { c with a := c.a ^^^ v, f := flagByte (c.a ^^^ v == 0) false false false }
  | .or => { c with a := c.a ||| v, f := flagByte (c.a ||| v == 0) false false false }

/-- The byte after `INC` of a byte (42 R209). -/
def specInc (v : Byte) : Byte := BitVec.ofNat 8 (v.toNat + 1)

/-- `F` after `INC` of a byte: C kept (42 R209). -/
def specIncFlags (v f : Byte) : Byte := flagByte (v == 0xFF) false (v.toNat % 16 == 15) (bit f 4)

/-- The byte after `DEC` of a byte (42 R211). -/
def specDec (v : Byte) : Byte := BitVec.ofNat 8 (v.toNat + 255)

/-- `F` after `DEC` of a byte: C kept (42 R211). -/
def specDecFlags (v f : Byte) : Byte := flagByte (v == 1) true (v.toNat % 16 == 0) (bit f 4)

/-- `A` and `F` after `DAA` (42 R213). -/
def specDaa (c : Cpu) : Cpu :=
  let a := c.a.toNat
  let n := bit c.f 6
  let h := bit c.f 5
  let cy := bit c.f 4
  let low := if h || (!n && decide (9 < a % 16)) then 6 else 0
  let high := cy || (!n && decide (0x99 < a))
  let adj := low + (if high then 0x60 else 0)
  let r : Byte := BitVec.ofNat 8 (if n then a + 512 - adj else a + adj)
  { c with a := r, f := flagByte (r == 0) n false (if n then cy else high) }

/-- `HL` and `F` after `ADD HL,rp` (43 R230). -/
def specAddHl (v : Word) (c : Cpu) : Cpu :=
  let h := c.hl.toNat
  let w := v.toNat
  { c.setHl (BitVec.ofNat 16 (h + w)) with
    f := flagByte (bit c.f 7) false (0xFFF < h % 4096 + w % 4096) (0xFFFF < h + w) }

/-- `SP` plus a signed displacement (43 R233, 41 R183). -/
def specSpOffset (sp : Word) (e8 : Byte) : Word := BitVec.ofInt 16 ((sp.toNat : Int) + signed8 e8)

/-- `F` after the addition of a displacement to `SP`: carries of the low bytes (43 R233, 41 R183). -/
def specSpFlags (sp : Word) (e8 : Byte) : Byte :=
  flagByte false false (15 < sp.toNat % 16 + e8.toNat % 16) (255 < sp.toNat % 256 + e8.toNat)

/-- The byte after a rotate, shift or swap, with the old carry as 0 or 1 (44 R245 to R252). -/
def specRot (op : RotOp) (v : Nat) (c : Nat) : Byte :=
  BitVec.ofNat 8 (match op with
    | .rlc => v * 2 + v / 128
    | .rrc => v / 2 + v % 2 * 128
    | .rl => v * 2 + c
    | .rr => v / 2 + c * 128
    | .sla => v * 2
    | .sra => v / 2 + v / 128 * 128
    | .swap => v * 16 + v / 16
    | .srl => v / 2)

/-- The carry after a rotate, shift or swap: the bit shifted out (44 R245 to R252). -/
def specRotCarry (op : RotOp) (v : Byte) : Bool :=
  match op with
  | .rlc | .rl | .sla => decide (128 ≤ v.toNat)
  | .rrc | .rr | .sra | .srl => decide (v.toNat % 2 = 1)
  | .swap => false

/-- Whether a condition holds, by the bits of `F` (30 R125). -/
def specCond (cc : Cond) (f : Byte) : Bool :=
  match cc with
  | .nz => !(bit f 7)
  | .z => bit f 7
  | .nc => !(bit f 4)
  | .c => bit f 4

/-- Packed decimal: the byte whose two nibbles are the digits of a number below 100. -/
def bcd (n : Nat) : Byte := BitVec.ofNat 8 (n / 10 * 16 + n % 10)

/-- Read bytes one after another, as the fetch does (30 R121). -/
def readRun : Nat → Word → State → Access (List Byte)
  | 0, _, s => .ok [] s
  | n + 1, a, s => (readByte a s).andThen fun v s1 => (readRun n (a + 1) s1).andThen fun vs s2 => .ok (v :: vs) s2

/-! ### Which instructions write the flags and `SP` -/

/-- The instructions of the flag table (10 R25), by opcode: the `alu` rows, `INC`, `DEC` of a byte, the rows of `x = 0`,
`z = 7`, `ADD HL`, `ADD SP,e8`, `LD HL,SP+e8`, `POP AF`, and the prefixed rotates, shifts, swaps and `BIT`. -/
def writesFlags (i : Instr) : Bool :=
  match encode i with
  | [] => false
  | op :: rest =>
    if op = 0xCB then decide ((rest.headD 0).toNat < 0x80)
    else fieldX op == 2 || (fieldX op == 3 && fieldZ op == 6)
      || (fieldX op == 0 && (fieldZ op == 4 || fieldZ op == 5 || fieldZ op == 7))
      || [0x09, 0x19, 0x29, 0x39, 0xE8, 0xF8, 0xF1].contains op.toNat

/-- The instructions that write `SP` (10 R26), by opcode: `LD SP,d16`, `LD SP,HL`, `ADD SP,e8`, `INC SP`, `DEC SP`,
`PUSH`, `POP`, `CALL`, `RET`, `RETI`, `RST`. -/
def writesSp (i : Instr) : Bool :=
  match encode i with
  | [] => false
  | op :: _ =>
    [0x31, 0xF9, 0xE8, 0x33, 0x3B, 0xCD, 0xC9, 0xD9].contains op.toNat
      || (fieldX op == 3 && (fieldZ op == 7
        || (fieldY op < 4 && (fieldZ op == 0 || fieldZ op == 4))
        || (fieldY op % 2 == 0 && (fieldZ op == 1 || fieldZ op == 5))))

/-! ### Invariants -/

/-- The low nibble of `F` reads as zero (10 R22). -/
def State.FlagsInv (s : State) : Prop := s.cpu.f &&& 0x0F = 0

/-- The bytes a store has (10 R31, 20 R92, 60 R355). -/
def Cart.storeSize (c : Cart) : Store → Nat
  | .rom => 0x8000 <<< c.romCode
  | .vram => 8192
  | .wram => 8192
  | .eram => c.ramSize
  | .oam => 160
  | .io => 128
  | .hram => 127
  | .framebuffer => 5760

/-- Every store is in its canonical form and lists nothing outside its size. -/
def State.MemoryInv (s : State) : Prop :=
  ∀ st, Memory.wf st (s.mem.get st) = true ∧ ∀ c ∈ s.mem.get st, c.1 < s.cart.storeSize st

/-- The switchable window never selects by a zero select field (20 R95). -/
def State.BankInv (s : State) : Prop :=
  (s.cart.mbc = .mbc1 → s.mbc.romBank &&& 0x1F ≠ 0) ∧ (s.cart.mbc = .independent → s.mbc.romBank ≠ 0)

/-- STAT shows the mode (60 R347), and the scanline is in the mode's range (10 R36, 60 R344, R345). -/
def State.VideoInv (s : State) : Prop :=
  s.io ioSTAT &&& 0x03 = s.video.mode.code ∧
  (s.video.mode = .vblank → 144 ≤ (s.io ioLY).toNat ∧ (s.io ioLY).toNat ≤ 153) ∧
  (s.video.mode ≠ .vblank → (s.io ioLY).toNat < 144)

/-- A channel's volume and length are in their ranges (10 R37). -/
def Channel.inRange (c : Channel) : Prop := c.volume ≤ 15 ∧ c.length ≤ 64

/-- NR52 mirrors the enable flags with bits 3:2 zero (60 R369), and the channels are in range (10 R37). -/
def State.AudioInv (s : State) : Prop :=
  s.io ioNR52 &&& 0x0F = BitVec.ofNat 8 (2 * bitVal s.audio.ch2.enabled + bitVal s.audio.ch1.enabled) ∧
  s.audio.ch1.inRange ∧ s.audio.ch2.inRange

/-- The devices have the same tick count, which the CPU's has reached, and which is the CPU's in a run that has not
stopped (60 R323). -/
def State.TicksInv (s : State) : Prop :=
  s.timer.localTicks = s.video.localTicks ∧ s.video.localTicks = s.audio.localTicks ∧
  s.audio.localTicks ≤ s.cpu.ticks ∧ (s.isFaulted = false → s.audio.localTicks = s.cpu.ticks)

/-- The invariants together, over a configuration that leaves the device-owned bytes alone. -/
def State.Inv (s : State) : Prop :=
  s.cfg.wellFormed = true ∧ s.FlagsInv ∧ s.MemoryInv ∧ s.BankInv ∧ s.VideoInv ∧ s.AudioInv ∧ s.TicksInv

end Sys2Proof.Machine
end

