-- ==== Sys2Proof/Certificates/Slice0/Obligations.lean ====
section
/-! DEFINITION. The statements for the provers. -/

section
open Sys2Proof Sys2Proof.Machine

/-! ## Encoding -/

/-- Words written out from the encodings of 30 R122, R130, R131 decode to the instructions they stand for. -/
def Obligations.DecodedWords : Prop :=
  decode [0x41] = .instr .ld_B_C [] ∧
  decode [0xEA, 0x34, 0xC1, 0x00] = .instr (.ld_atA16_A 0xC134) [0x00] ∧
  decode [0x20, 0xFE] = .instr (.jr_NZ_e8 0xFE) [] ∧
  decode [0xD9] = .instr .reti [] ∧
  decode [0x10, 0x5A] = .instr (.stop 0x5A) [] ∧
  decode [0xCB, 0x37] = .instr .swap_A [] ∧
  decode [0xCB, 0x7E] = .instr .bit_7_atHL [] ∧
  decode [0xDD] = .instr .illegal_DD [] ∧
  decode [0xCD, 0x70] = .rejected (.truncated 2 3)

/-- 30 R120, R130, R131: decoding an encoded instruction gives it back, whatever bytes follow. -/
def Obligations.DecodeAfterEncode : Prop :=
  ∀ (i : Instr) (rest : List Byte), decode (encode i ++ rest) = .instr i rest

/-- 30 R120, R133: the bytes an instruction was decoded from are its encoding: each word has one meaning. -/
def Obligations.EncodeAfterDecode : Prop :=
  ∀ (bytes : List Byte) (i : Instr) (rest : List Byte), decode bytes = .instr i rest → encode i ++ rest = bytes

/-- 30 R120, R132: three bytes always decode, and the result is without a handler exactly when the first byte is one
of the eleven. -/
def Obligations.DecodingIsTotal : Prop :=
  ∀ (op b1 b2 : Byte) (tail : List Byte), ∃ i rest,
    decode (op :: b1 :: b2 :: tail) = .instr i rest ∧ 1 ≤ (encode i).length ∧ (encode i).length ≤ 3 ∧
    (i.wellFormed = false ↔
      op ∈ [0xD3#8, 0xDB#8, 0xDD#8, 0xE3#8, 0xE4#8, 0xEB#8, 0xEC#8, 0xED#8, 0xF4#8, 0xFC#8, 0xFD#8])

/-! ## The step -/

/-- 60 R320, 30 R121: a running machine whose bytes at `PC` are an instruction's runs it: after `EI`'s delayed effect
the bytes are fetched, the instruction is executed, and unless it stopped the run, the interrupt test follows and then
the devices' synchronization. The step that enters the stopped state synchronizes without a test, whatever is pending
(46 R292, 60 R322: "no interrupt is tested"; that this holds of that step already is the model's reading, log 22). -/
def Obligations.StepRunsDecodedInstruction : Prop :=
  ∀ (s u : State) (i : Instr), s.hostPlan = [] → s.cpu.runState = .running →
    readRun (encode i).length s.cpu.pc (s.onCpu Cpu.consumeEi) = .ok (encode i) u →
    (∀ t, exec i u = .next t → t.isFaulted = true → step s = .next t) ∧
    (∀ t, exec i u = .next t → t.cpu.runState = .stopped → step s = .next t.syncDevices) ∧
    (∀ t v, exec i u = .next t → t.isFaulted = false → t.cpu.runState ≠ .stopped → testInterrupts t = .ok () v →
      step s = .next v.syncDevices) ∧
    (∀ t v info, exec i u = .next t → t.isFaulted = false → t.cpu.runState ≠ .stopped →
      testInterrupts t = .stop info v → step s = .next (v.raise info))

/-- 46 R296, 60 R301, R302, 20 R101, in the step of 60 R320 and 30 R121: the step that fetches an illegal opcode, or fetches from external RAM that the cartridge
does not have, stops the run there, with nothing else changed but what the start of the step does: `PC` stays, no
ticks are added, no interrupt is taken and no device advances. That such a stop is answered as a next state, the faulted
one, is the model's reading (log 1, DEDUCED). -/
def Obligations.StopsAtFetch : Prop :=
  (∀ (op : IllegalOp) (s : State),
    exec (.illegal op) s = .next { s with
      cpu := { s.cpu with runState := .faulted (.unimplementedInstruction op.byte s.cpu.pc) } }) ∧
  (∀ (op : IllegalOp) (s : State), s.hostPlan = [] → s.cpu.runState = .running → s.backed s.cpu.pc = true →
    s.busValue s.cpu.pc = op.byte →
    step s = .next { s.afterRead s.cpu.pc with
      cpu := { s.cpu.consumeEi with runState := .faulted (.unimplementedInstruction op.byte s.cpu.pc) } }) ∧
  (∀ (s : State), s.hostPlan = [] → s.cpu.runState = .running → s.backed s.cpu.pc = false →
    step s = .next { s with
      cpu := { s.cpu.consumeEi with runState := .faulted (.invalidBankDispatch s.cpu.pc) } })

/-! ## Loads -/

/-- 40 R150, R151, 41 R180, R182: the loads between registers and of immediates complete in every state, and change
the destination, `PC` and the ticks only. -/
def Obligations.RegisterLoads : Prop :=
  (∀ dst r s, exec (.ldRR dst r) s = .next (s.afterCpu 1 4 fun c => c.setReg dst (c.reg r))) ∧
  (∀ dst n8 s, exec (.ldRImm dst n8) s = .next (s.afterCpu 2 8 fun c => c.setReg dst n8)) ∧
  (∀ p n16 s, exec (.ldRpImm p n16) s = .next (s.afterCpu 3 12 fun c => c.setRp p n16)) ∧
  (∀ s, exec .ld_SP_HL s = .next (s.afterCpu 1 8 fun c => { c with sp := wordOf c.h c.l }))

/-- The loads from memory, with the address, the length and the ticks of each (40 R152, R155, R156, R159, R162, R164,
R168, R169): where the address is backed the load completes and changes its destination (and `HL`, in the moving forms)
only; where it is not, it stops with `PC` past it and nothing loaded. -/
def Obligations.LoadsFromMemory : Prop :=
  let completes (i : Instr) (s : State) (a : Word) (len ticks : Nat) (f : Byte → Cpu → Cpu) : Prop :=
    (s.backed a = true → exec i s = .next ((s.afterRead a).afterCpu len ticks (f (s.busValue a)))) ∧
    (s.backed a = false → exec i s = .next ((s.advanced len).raise (.invalidBankDispatch a)))
  let intoA (v : Byte) (c : Cpu) : Cpu := { c with a := v }
  ∀ (s : State),
    (∀ dst, completes (.ldRHl dst) s (wordOf s.cpu.h s.cpu.l) 1 8 fun v c => c.setReg dst v) ∧
    completes .ld_A_atBC s (wordOf s.cpu.b s.cpu.c) 1 8 intoA ∧
    completes .ld_A_atDE s (wordOf s.cpu.d s.cpu.e) 1 8 intoA ∧
    (∀ n16, completes (.ld_A_atA16 n16) s n16 3 16 intoA) ∧
    (∀ n8, completes (.ldh_A_atA8 n8) s (0xFF00#16 + zext16 n8) 2 12 intoA) ∧
    completes .ld_A_atC s (0xFF00#16 + zext16 s.cpu.c) 1 8 intoA ∧
    completes .ld_A_atHLI s s.cpu.hl 1 8 (fun v c => { c.setHl (c.hl + 1) with a := v }) ∧
    completes .ld_A_atHLD s s.cpu.hl 1 8 (fun v c => { c.setHl (c.hl - 1) with a := v })

/-- The stores of a byte, with the address, the byte, the length and the ticks of each (40 R153, R154, R157, R158, R160,
R163, R165, R166, R167): where the store is ready to go through, the instruction completes with that one write; where the
write stops, so does the instruction. The moving forms change `HL` after the write. `LD (a16),SP` (41 R181) is two
writes, low byte first; a stop at the second leaves the first stored. -/
def Obligations.Stores : Prop :=
  let completes (i : Instr) (s : State) (a : Word) (v : Byte) (len ticks : Nat) (move : Word) : Prop :=
    (s.storeReady a v = true → ∃ u, writeByte a v (s.advanced len) = .ok () u ∧
      exec i s = .next (u.onCpu fun c => { c.setHl (c.hl + move) with ticks := c.ticks + ticks })) ∧
    (∀ info u, writeByte a v (s.advanced len) = .stop info u → exec i s = .next (u.raise info))
  ∀ (s : State),
    (∀ r, completes (.ldHlR r) s s.cpu.hl (s.cpu.reg r) 1 8 0) ∧
    (∀ n8, completes (.ld_atHL_d8 n8) s s.cpu.hl n8 2 12 0) ∧
    completes .ld_atBC_A s s.cpu.bc s.cpu.a 1 8 0 ∧
    completes .ld_atDE_A s s.cpu.de s.cpu.a 1 8 0 ∧
    (∀ n16, completes (.ld_atA16_A n16) s n16 s.cpu.a 3 16 0) ∧
    (∀ n8, completes (.ldh_atA8_A n8) s (0xFF00#16 + zext16 n8) s.cpu.a 2 12 0) ∧
    completes .ld_atC_A s (0xFF00#16 + zext16 s.cpu.c) s.cpu.a 1 8 0 ∧
    completes .ld_atHLI_A s s.cpu.hl s.cpu.a 1 8 1 ∧
    completes .ld_atHLD_A s s.cpu.hl s.cpu.a 1 8 0xFFFF ∧
    (∀ n16, s.storeReady n16 (loByte s.cpu.sp) = true → ∃ u,
      writeByte n16 (loByte s.cpu.sp) (s.advanced 3) = .ok () u ∧
      (s.storeReady (n16 + 1) (hiByte s.cpu.sp) = true → ∃ v, writeByte (n16 + 1) (hiByte s.cpu.sp) u = .ok () v ∧
        exec (.ld_atA16_SP n16) s = .next (v.onCpu fun c => c.addTicks 20)) ∧
      (∀ info v, writeByte (n16 + 1) (hiByte s.cpu.sp) u = .stop info v →
        exec (.ld_atA16_SP n16) s = .next (v.raise info))) ∧
    (∀ n16 info u, writeByte n16 (loByte s.cpu.sp) (s.advanced 3) = .stop info u →
      exec (.ld_atA16_SP n16) s = .next (u.raise info))

/-- 41 R184: a push writes the high byte below `SP` and the low byte below that, and leaves `SP` two down. 41 R185,
R186: a pop reads the low byte at `SP` and the high byte above it, leaves `SP` two up, and `POP AF` discards the low
nibble of the flags. A stop at either access leaves what was done before it. -/
def Obligations.PushesAndPops : Prop :=
  (∀ (s : State) (p : Rp2),
    let first := writeByte (s.cpu.sp - 1) (hiByte (s.cpu.rp2 p))
      ((s.advanced 1).onCpu fun c => { c with sp := s.cpu.sp - 1 })
    let second (u : State) := writeByte (s.cpu.sp - 2) (loByte (s.cpu.rp2 p))
      (u.onCpu fun c => { c with sp := s.cpu.sp - 2 })
    (s.storeReady (s.cpu.sp - 1) (hiByte (s.cpu.rp2 p)) = true →
      s.storeReady (s.cpu.sp - 2) (loByte (s.cpu.rp2 p)) = true →
      ∃ u v, first = .ok () u ∧ second u = .ok () v ∧
        exec (.pushRp2 p) s = .next (v.onCpu fun c => c.addTicks 16)) ∧
    (∀ info u, first = .stop info u → exec (.pushRp2 p) s = .next (u.raise info)) ∧
    (∀ u info v, first = .ok () u → second u = .stop info v → exec (.pushRp2 p) s = .next (v.raise info))) ∧
  (∀ (s : State), s.backed s.cpu.sp = true → s.backed (s.cpu.sp + 1) = true →
    let t := (s.afterRead s.cpu.sp).afterRead (s.cpu.sp + 1)
    let lo := s.busValue s.cpu.sp
    let hi := (s.afterRead s.cpu.sp).busValue (s.cpu.sp + 1)
    exec .pop_BC s = .next (t.afterCpu 1 12 fun c => { c with b := hi, c := lo, sp := c.sp + 2 }) ∧
    exec .pop_DE s = .next (t.afterCpu 1 12 fun c => { c with d := hi, e := lo, sp := c.sp + 2 }) ∧
    exec .pop_HL s = .next (t.afterCpu 1 12 fun c => { c with h := hi, l := lo, sp := c.sp + 2 }) ∧
    exec .pop_AF s = .next (t.afterCpu 1 12 fun c => { c with a := hi, f := lo &&& 0xF0, sp := c.sp + 2 })) ∧
  (∀ (s : State) (p : Rp2),
    (s.backed s.cpu.sp = false →
      exec (.popRp2 p) s = .next ((s.advanced 1).raise (.invalidBankDispatch s.cpu.sp))) ∧
    (s.backed s.cpu.sp = true → s.backed (s.cpu.sp + 1) = false →
      exec (.popRp2 p) s = .next ((((s.advanced 1).afterRead s.cpu.sp).onCpu fun c =>
        { c with sp := c.sp + 1 }).raise (.invalidBankDispatch (s.cpu.sp + 1)))))

/-- 41 R184 to R186, 20 R82: over plain storage a push and a pop restore `SP` and move the pair, but for the low nibble
of the flags. -/
def Obligations.PopAfterPush : Prop :=
  ∀ (s : State) (p q : Rp2), (s.plainCell (s.cpu.sp - 1)).isSome = true → (s.plainCell (s.cpu.sp - 2)).isSome = true →
    ∃ t u, exec (.pushRp2 p) s = .next t ∧ exec (.popRp2 q) t = .next u ∧ u.cpu.sp = s.cpu.sp ∧
      u.cpu.rp2 q = (if q = .af then s.cpu.rp2 p &&& 0xFFF0 else s.cpu.rp2 p)

/-! ## 8-bit arithmetic -/

/-- 42 R200 to R208: the eight operations in their three operand forms, with the true carries and borrows over the
integers; nothing but `A`, the flags, `PC` and the ticks changes. -/
def Obligations.AluForms : Prop :=
  (∀ op r s, exec (.aluR op r) s = .next (s.afterCpu 1 4 fun c => specAlu op (c.reg r) c)) ∧
  (∀ op n8 s, exec (.aluImm op n8) s = .next (s.afterCpu 2 8 (specAlu op n8))) ∧
  (∀ op s, s.backed s.cpu.hl = true →
    exec (.aluHl op) s = .next ((s.afterRead s.cpu.hl).afterCpu 1 8 (specAlu op (s.busValue s.cpu.hl)))) ∧
  (∀ op s, s.backed s.cpu.hl = false →
    exec (.aluHl op) s = .next ((s.advanced 1).raise (.invalidBankDispatch s.cpu.hl)))

/-- 42 R209 to R212, 43 R231, R232, 20 R85: `INC` and `DEC` of a byte keep the carry; the memory forms read once, write
once, and then set the flags; of a pair they touch no flag. -/
def Obligations.IncrementsAndDecrements : Prop :=
  (∀ r s, exec (.incR r) s = .next (s.afterCpu 1 4 fun c =>
    { c.setReg r (specInc (c.reg r)) with f := specIncFlags (c.reg r) c.f })) ∧
  (∀ r s, exec (.decR r) s = .next (s.afterCpu 1 4 fun c =>
    { c.setReg r (specDec (c.reg r)) with f := specDecFlags (c.reg r) c.f })) ∧
  (∀ p s, exec (.incRp p) s = .next (s.afterCpu 1 8 fun c => c.setRp p (BitVec.ofNat 16 ((c.rp p).toNat + 1)))) ∧
  (∀ p s, exec (.decRp p) s = .next (s.afterCpu 1 8 fun c => c.setRp p (BitVec.ofNat 16 ((c.rp p).toNat + 65535)))) ∧
  ∀ (s : State),
    (s.storeReady s.cpu.hl (specInc (s.busValue s.cpu.hl)) = true → ∃ u,
      writeByte s.cpu.hl (specInc (s.busValue s.cpu.hl)) ((s.advanced 1).afterRead s.cpu.hl) = .ok () u ∧
      exec .inc_atHL s = .next (u.onCpu fun c =>
        { c with f := specIncFlags (s.busValue s.cpu.hl) s.cpu.f, ticks := c.ticks + 12 })) ∧
    (s.storeReady s.cpu.hl (specDec (s.busValue s.cpu.hl)) = true → ∃ u,
      writeByte s.cpu.hl (specDec (s.busValue s.cpu.hl)) ((s.advanced 1).afterRead s.cpu.hl) = .ok () u ∧
      exec .dec_atHL s = .next (u.onCpu fun c =>
        { c with f := specDecFlags (s.busValue s.cpu.hl) s.cpu.f, ticks := c.ticks + 12 })) ∧
    (∀ info u, writeByte s.cpu.hl (specInc (s.busValue s.cpu.hl)) ((s.advanced 1).afterRead s.cpu.hl) = .stop info u →
      s.backed s.cpu.hl = true → exec .inc_atHL s = .next (u.raise info)) ∧
    (∀ info u, writeByte s.cpu.hl (specDec (s.busValue s.cpu.hl)) ((s.advanced 1).afterRead s.cpu.hl) = .stop info u →
      s.backed s.cpu.hl = true → exec .dec_atHL s = .next (u.raise info)) ∧
    (s.backed s.cpu.hl = false →
      exec .inc_atHL s = .next ((s.advanced 1).raise (.invalidBankDispatch s.cpu.hl)) ∧
      exec .dec_atHL s = .next ((s.advanced 1).raise (.invalidBankDispatch s.cpu.hl)))

/-- 42 R213 to R216: `DAA`, `CPL`, `SCF`, `CCF`. -/
def Obligations.AccumulatorAdjusts : Prop :=
  ∀ (s : State),
    exec .daa s = .next (s.afterCpu 1 4 specDaa) ∧
    exec .cpl s = .next (s.afterCpu 1 4 fun c =>
      { c with a := BitVec.ofNat 8 (255 - c.a.toNat), f := flagByte (bit c.f 7) true true (bit c.f 4) }) ∧
    exec .scf s = .next (s.afterCpu 1 4 fun c => { c with f := flagByte (bit c.f 7) false false true }) ∧
    exec .ccf s = .next (s.afterCpu 1 4 fun c => { c with f := flagByte (bit c.f 7) false false (!(bit c.f 4)) })

/-- 42 R213 ("decimal-adjust `A` after a BCD addition or subtraction"): after an addition or a subtraction of two packed
decimal numbers `DAA` leaves their decimal sum or difference, and the decimal carry or borrow in C. -/
def Obligations.DecimalArithmetic : Prop :=
  ∀ (s : State) (x y : Nat), x < 100 → y < 100 → s.cpu.a = bcd x →
    (∃ t u, exec (.aluImm .add (bcd y)) s = .next t ∧ exec .daa t = .next u ∧
      u.cpu.a = bcd ((x + y) % 100) ∧ bit u.cpu.f 4 = decide (100 ≤ x + y)) ∧
    (∃ t u, exec (.aluImm .sub (bcd y)) s = .next t ∧ exec .daa t = .next u ∧
      u.cpu.a = bcd ((x + 100 - y) % 100) ∧ bit u.cpu.f 4 = decide (x < y))

/-! ## 16-bit arithmetic -/

/-- 43 R230, R233, 41 R183: `ADD HL,rp`, `ADD SP,e8` and `LD HL,SP+e8`. -/
def Obligations.WordArithmetic : Prop :=
  (∀ p s, exec (.addHlRp p) s = .next (s.afterCpu 1 8 fun c => specAddHl (c.rp p) c)) ∧
  (∀ e8 s, exec (.add_SP_e8 e8) s = .next (s.afterCpu 2 16 fun c =>
    { c with sp := specSpOffset c.sp e8, f := specSpFlags c.sp e8 })) ∧
  (∀ e8 s, exec (.ld_HL_SP_e8 e8) s = .next (s.afterCpu 2 12 fun c =>
    { c.setHl (specSpOffset c.sp e8) with f := specSpFlags c.sp e8 }))

/-! ## Rotates, shifts and bits -/

/-- 44 R241 to R252: the rotates and shifts of registers; the accumulator forms clear Z, the prefixed forms set it by
the result. -/
def Obligations.RotatesOfRegisters : Prop :=
  (∀ op r s, exec (.rotR op r) s = .next (s.afterCpu 2 8 fun c =>
    let v := specRot op (c.reg r).toNat (bitVal (bit c.f 4))
    { c.setReg r v with f := flagByte (v == 0) false false (specRotCarry op (c.reg r)) })) ∧
  (∀ s, exec .rlca s = .next (s.afterCpu 1 4 fun c =>
    { c with a := specRot .rlc c.a.toNat 0, f := flagByte false false false (specRotCarry .rlc c.a) })) ∧
  (∀ s, exec .rrca s = .next (s.afterCpu 1 4 fun c =>
    { c with a := specRot .rrc c.a.toNat 0, f := flagByte false false false (specRotCarry .rrc c.a) })) ∧
  (∀ s, exec .rla s = .next (s.afterCpu 1 4 fun c =>
    { c with a := specRot .rl c.a.toNat (bitVal (bit c.f 4)),
             f := flagByte false false false (specRotCarry .rl c.a) })) ∧
  (∀ s, exec .rra s = .next (s.afterCpu 1 4 fun c =>
    { c with a := specRot .rr c.a.toNat (bitVal (bit c.f 4)),
             f := flagByte false false false (specRotCarry .rr c.a) }))

/-- 44 R240, R245 to R252, R254, R255, 20 R85: the prefixed read-modify-write forms of the byte at `HL`: one read, one
write of the result, then the flags; a stop of the read or of the write stops the instruction there. -/
def Obligations.RotatesAndBitsOfMemory : Prop :=
  let completes (i : Instr) (s : State) (r : Byte) (f : Byte) : Prop :=
    let written := writeByte s.cpu.hl r ((s.advanced 2).afterRead s.cpu.hl)
    (s.storeReady s.cpu.hl r = true → ∃ u, written = .ok () u ∧
      exec i s = .next (u.onCpu fun c => { c with f := f, ticks := c.ticks + 16 })) ∧
    (∀ info u, s.backed s.cpu.hl = true → written = .stop info u → exec i s = .next (u.raise info)) ∧
    (s.backed s.cpu.hl = false → exec i s = .next ((s.advanced 2).raise (.invalidBankDispatch s.cpu.hl)))
  ∀ (s : State),
    (∀ op, let v := s.busValue s.cpu.hl
      let r := specRot op v.toNat (bitVal (bit s.cpu.f 4))
      completes (.rotHl op) s r (flagByte (r == 0) false false (specRotCarry op v))) ∧
    (∀ (b : Oct) (v : Byte), (∀ j, j < 8 → bit v j = (decide (j ≠ b.toNat) && bit (s.busValue s.cpu.hl) j)) →
      completes (.resHl b) s v s.cpu.f) ∧
    (∀ (b : Oct) (v : Byte), (∀ j, j < 8 → bit v j = (decide (j = b.toNat) || bit (s.busValue s.cpu.hl) j)) →
      completes (.setHl b) s v s.cpu.f)

/-- 44 R253 to R255: `BIT` sets Z by the tested bit and changes no register; `RES` and `SET` change that one bit of the
register and no flag. -/
def Obligations.BitInstructions : Prop :=
  (∀ (b : Oct) r s, exec (.bitR b r) s = .next (s.afterCpu 2 8 fun c =>
    { c with f := flagByte (!(bit (c.reg r) b.toNat)) false true (bit c.f 4) })) ∧
  (∀ (b : Oct) (s : State), s.backed s.cpu.hl = true →
    exec (.bitHl b) s = .next ((s.afterRead s.cpu.hl).afterCpu 2 12 fun c =>
      { c with f := flagByte (!(bit (s.busValue s.cpu.hl) b.toNat)) false true (bit c.f 4) })) ∧
  (∀ (b : Oct) (s : State), s.backed s.cpu.hl = false →
    exec (.bitHl b) s = .next ((s.advanced 2).raise (.invalidBankDispatch s.cpu.hl))) ∧
  (∀ (b : Oct) r (s : State), ∃ v : Byte,
    (∀ j, j < 8 → bit v j = (decide (j ≠ b.toNat) && bit (s.cpu.reg r) j)) ∧
    exec (.resR b r) s = .next (s.afterCpu 2 8 fun c => c.setReg r v)) ∧
  (∀ (b : Oct) r (s : State), ∃ v : Byte,
    (∀ j, j < 8 → bit v j = (decide (j = b.toNat) || bit (s.cpu.reg r) j)) ∧
    exec (.setR b r) s = .next (s.afterCpu 2 8 fun c => c.setReg r v))

/-! ## Control transfer -/

/-- 45 R271 to R275, 30 R125: the jumps, taken and not taken, by the bits of `F`; the displacement is signed and counts
from the following instruction. -/
def Obligations.JumpsAndRelativeJumps : Prop :=
  let goes (s : State) (pc : Word) (ticks : Nat) : Answer :=
    .next (s.onCpu fun c => { c with pc := pc, ticks := c.ticks + ticks })
  ∀ (s : State),
    (∀ n16, exec (.jp_a16 n16) s = goes s n16 16) ∧
    exec .jp_HL s = goes s (wordOf s.cpu.h s.cpu.l) 4 ∧
    (∀ e8, exec (.jr_e8 e8) s = goes s (s.cpu.pc + 2 + BitVec.ofInt 16 (signed8 e8)) 12) ∧
    (∀ cc n16, exec (.jpCc cc n16) s =
      if specCond cc s.cpu.f then goes s n16 16 else goes s (s.cpu.pc + 3) 12) ∧
    (∀ cc e8, exec (.jrCc cc e8) s =
      if specCond cc s.cpu.f then goes s (s.cpu.pc + 2 + BitVec.ofInt 16 (signed8 e8)) 12 else goes s (s.cpu.pc + 2) 8)

/-- 45 R276, R277, R281: calls and restarts push the address of the following instruction, high byte first, and go to
their target; a conditional call that is not taken only advances; a stop in the push stops before the transfer. -/
def Obligations.Calls : Prop :=
  let calls (i : Instr) (s : State) (len : Nat) (target : Word) (ticks : Nat) : Prop :=
    let ret := s.cpu.pc + BitVec.ofNat 16 len
    let first := writeByte (s.cpu.sp - 1) (hiByte ret) ((s.advanced len).onCpu fun c => { c with sp := s.cpu.sp - 1 })
    let second (u : State) := writeByte (s.cpu.sp - 2) (loByte ret) (u.onCpu fun c => { c with sp := s.cpu.sp - 2 })
    (s.storeReady (s.cpu.sp - 1) (hiByte ret) = true → s.storeReady (s.cpu.sp - 2) (loByte ret) = true →
      ∃ u v, first = .ok () u ∧ second u = .ok () v ∧
        exec i s = .next (v.onCpu fun c => { c with pc := target, ticks := c.ticks + ticks })) ∧
    (∀ info u, first = .stop info u → exec i s = .next (u.raise info)) ∧
    (∀ u info v, first = .ok () u → second u = .stop info v → exec i s = .next (v.raise info))
  ∀ (s : State),
    (∀ n16, calls (.call_a16 n16) s 3 n16 24) ∧
    (∀ cc n16, specCond cc s.cpu.f = true → calls (.callCc cc n16) s 3 n16 24) ∧
    (∀ cc n16, specCond cc s.cpu.f = false → exec (.callCc cc n16) s = .next (s.afterCpu 3 12 id)) ∧
    (∀ y : Oct, calls (.rst y) s 1 (BitVec.ofNat 16 (8 * y.toNat)) 16)

/-- 45 R278 to R280: the returns pop `PC`; `RETI` also sets `IME` at once; a conditional return that is not taken only
advances; a stop in the pop leaves `PC` past the return. -/
def Obligations.Returns : Prop :=
  ∀ (s : State),
    (∀ cc, specCond cc s.cpu.f = false → exec (.retCc cc) s = .next (s.afterCpu 1 8 id)) ∧
    (s.backed s.cpu.sp = true → s.backed (s.cpu.sp + 1) = true →
      let t := (s.afterRead s.cpu.sp).afterRead (s.cpu.sp + 1)
      let ret := wordOf ((s.afterRead s.cpu.sp).busValue (s.cpu.sp + 1)) (s.busValue s.cpu.sp)
      exec .ret s = .next (t.onCpu fun c => { c with pc := ret, sp := c.sp + 2, ticks := c.ticks + 16 }) ∧
      (∀ cc, specCond cc s.cpu.f = true →
        exec (.retCc cc) s = .next (t.onCpu fun c => { c with pc := ret, sp := c.sp + 2, ticks := c.ticks + 20 })) ∧
      exec .reti s = .next (t.onCpu fun c =>
        { c with pc := ret, sp := c.sp + 2, ime := true, eiPending := false, ticks := c.ticks + 16 })) ∧
    (∀ i : Instr, i = .ret ∨ i = .reti ∨ (∃ cc, specCond cc s.cpu.f = true ∧ i = .retCc cc) →
      (s.backed s.cpu.sp = false → exec i s = .next ((s.advanced 1).raise (.invalidBankDispatch s.cpu.sp))) ∧
      (s.backed s.cpu.sp = true → s.backed (s.cpu.sp + 1) = false →
        exec i s = .next ((((s.advanced 1).afterRead s.cpu.sp).onCpu fun c =>
          { c with sp := c.sp + 1 }).raise (.invalidBankDispatch (s.cpu.sp + 1)))))

/-! ## System instructions -/

/-- 46 R290 to R294: `NOP`, `HALT`, `STOP`, `DI`, `EI`; an `EI` with `IME` set only advances (R294's corner case, which
the model follows against the rule's pseudocode, log 25). -/
def Obligations.SystemInstructions : Prop :=
  ∀ (s : State),
    exec .nop s = .next (s.afterCpu 1 4 id) ∧
    exec .halt s = .next (s.afterCpu 1 4 fun c => { c with runState := .halted }) ∧
    (∀ n8, exec (.stop n8) s = .next (s.afterCpu 2 4 fun c => { c with runState := .stopped })) ∧
    exec .di s = .next (s.afterCpu 1 4 fun c => { c with ime := false, eiPending := false }) ∧
    (s.cpu.ime = true → exec .ei s = .next (s.afterCpu 1 4 id)) ∧
    (s.cpu.ime = false → s.cfg.eiDelay = true →
      exec .ei s = .next (s.afterCpu 1 4 fun c => { c with eiPending := true })) ∧
    (s.cpu.ime = false → s.cfg.eiDelay = false →
      exec .ei s = .next (s.afterCpu 1 4 fun c => { c with ime := true }))

/-- 70 R421 ("the instruction after `EI` always executes before any interrupt is taken"): the step of `EI` with `IME`
clear dispatches nothing, whatever is pending, and leaves the enable to the next step. 46 R294, 60 R313: the step of an
`EI` that starts with `IME` set, or with the enable of an earlier `EI` due, leaves no enable pending, whether it
dispatches or not (the model's reading of R294's corner case, log 25). -/
def Obligations.EiActsOneInstructionLate : Prop :=
  ∀ (s : State), s.hostPlan = [] → s.cpu.runState = .running → s.backed s.cpu.pc = true → s.busValue s.cpu.pc = 0xFB →
    (s.cfg.eiDelay = true → s.cpu.ime = false → s.cpu.eiPending = false →
      ∃ t, step s = .next t ∧
        t.cpu = { s.cpu with pc := s.cpu.pc + 1, eiPending := true, ticks := s.cpu.ticks + 4 } ∧
        t.cpu.consumeEi = { t.cpu with ime := true, eiPending := false }) ∧
    (s.cpu.ime = true ∨ s.cpu.eiPending = true → ∃ t, step s = .next t ∧ t.cpu.eiPending = false)

/-! ## Frames over all instructions -/

/-- An instruction that stores nothing changes nothing outside the CPU, and every byte reads as before. -/
def Obligations.NonStoringFrame : Prop :=
  ∀ (i : Instr) (s t : State), storedAddresses i s = [] → exec i s = .next t →
    s.sameOutsideCpu t ∧ ∀ a, regionOf a ≠ .unusable → t.busValue a = s.busValue a

/-- An instruction leaves every cell it does not store to as it was; only a store to the DMA register reaches further,
into the sprite table. An I/O byte changes only by a store to it, but for NR52, which a trigger may change too; `IE`, the
bank controller and the devices' own state change only by stores to their addresses. No bus write changes the CPU. -/
def Obligations.StoringFrame : Prop :=
  (∀ a v (s u : State), (writeByte a v s = .ok () u → u.cpu = s.cpu) ∧
    ∀ info, writeByte a v s = .stop info u → u.cpu = s.cpu) ∧
  ∀ (i : Instr) (s t : State), exec i s = .next t →
    let stored := storedAddresses i s
    (∀ st n, st ≠ .io → (∀ a ∈ stored, s.plainCell a ≠ some (st, n)) → (0xFF46#16 ∉ stored ∨ st ≠ .oam) →
      t.cell st n = s.cell st n) ∧
    (∀ k, k ≠ 0x26 → (∀ a ∈ stored, a.toNat ≠ 0xFF00 + k) → t.io k = s.io k) ∧
    ((∀ a ∈ stored, a ∉ [0xFF14#16, 0xFF19#16, 0xFF26#16]) → t.io 0x26 = s.io 0x26) ∧
    (0xFFFF#16 ∉ stored → t.mem.ie = s.mem.ie) ∧
    ((∀ a ∈ stored, 0x8000 ≤ a.toNat) → t.mbc = { s.mbc with dirty := t.mbc.dirty }) ∧
    ((∀ a ∈ stored, regionOf a ≠ .eram) → t.mbc.dirty = s.mbc.dirty) ∧
    (0xFF04#16 ∉ stored → t.timer = s.timer) ∧
    ((∀ a ∈ stored, a ∉ [0xFF11#16, 0xFF14#16, 0xFF16#16, 0xFF19#16]) → t.audio = s.audio)

/-- An instruction that stores into plain storage leaves every address outside the stored bytes reading as before, and
no I/O byte, device or bank register but the dirty flag changed. -/
def Obligations.StoringFrameByAddress : Prop :=
  ∀ (i : Instr) (s t : State), exec i s = .next t →
    (∀ a ∈ storedAddresses i s, (s.plainCell a).isSome = true) →
    (∀ b, regionOf b ≠ .unusable → (∀ a ∈ storedAddresses i s, s.plainCell b ≠ s.plainCell a) →
      t.busValue b = s.busValue b) ∧
    t.timer = s.timer ∧ t.audio = s.audio ∧ t.mem.io = s.mem.io ∧ t.mem.ie = s.mem.ie ∧
    t.mbc = { s.mbc with dirty := t.mbc.dirty }

/-- 10 R25 ("Every instruction not in the table leaves all four flags unchanged"), R26 (`SP`), R28 (`IME` and the
pending enable), R29 (the run state): each is written by the instructions the rule names, and by no other. -/
def Obligations.CpuFrames : Prop :=
  ∀ (i : Instr) (s t : State), exec i s = .next t →
    (writesFlags i = false → t.cpu.f = s.cpu.f) ∧
    (writesSp i = false → t.cpu.sp = s.cpu.sp) ∧
    (i ≠ .di → i ≠ .ei → i ≠ .reti → t.cpu.ime = s.cpu.ime ∧ t.cpu.eiPending = s.cpu.eiPending) ∧
    (i ≠ .halt → (∀ n8, i ≠ .stop n8) → t.cpu.runState = s.cpu.runState ∨ t.isFaulted = true)

/-- 70 R430, 30 R129: an instruction that does not stop adds 4, 8, 12, 16, 20 or 24 ticks. -/
def Obligations.TicksOfInstructions : Prop :=
  ∀ (i : Instr) (s t : State), s.isFaulted = false → exec i s = .next t → t.isFaulted = false →
    t.cpu.ticks ∈ [s.cpu.ticks + 4, s.cpu.ticks + 8, s.cpu.ticks + 12, s.cpu.ticks + 16, s.cpu.ticks + 20,
      s.cpu.ticks + 24]

/-- 20 R66, 60 R355: no instruction changes the ROM image or the framebuffer, the cartridge's binding, the buttons or
the video unit. -/
def Obligations.NothingWritesRom : Prop :=
  ∀ (i : Instr) (s t : State), exec i s = .next t →
    t.mem.rom = s.mem.rom ∧ t.mem.framebuffer = s.mem.framebuffer ∧ t.cart = s.cart ∧ t.buttons = s.buttons ∧
    t.video = s.video ∧ t.cfg = s.cfg ∧ t.boots = s.boots ∧ t.hostPlan = s.hostPlan

/-! ## The bus -/

/-- 20 R67, R69, R70, R72: the RAM regions, high RAM and `IE` are plain storage in every state; the echo is the same
cells as working RAM. R71: in the unusable region a write changes nothing, and a read gives a byte that is some value of
its own at each read and changes nothing else: which value, the model's count of such reads says (the counter `draws` is
the model's choice, log 6; R71 gives only a draw at each read). -/
def Obligations.StorageRegions : Prop :=
  ∀ (s : State) (a : Word) (v : Byte),
    let n := a.toNat
    (0x8000 ≤ n → n < 0xA000 → readByte a s = .ok (s.cell .vram (n - 0x8000)) s ∧
      writeByte a v s = .ok () (s.setCell .vram (n - 0x8000) v)) ∧
    (0xC000 ≤ n → n < 0xE000 → readByte a s = .ok (s.cell .wram (n - 0xC000)) s ∧
      writeByte a v s = .ok () (s.setCell .wram (n - 0xC000) v)) ∧
    (0xE000 ≤ n → n < 0xFE00 → readByte a s = readByte (a - 0x2000) s ∧
      writeByte a v s = writeByte (a - 0x2000) v s) ∧
    (0xFE00 ≤ n → n < 0xFEA0 → readByte a s = .ok (s.cell .oam (n - 0xFE00)) s ∧
      writeByte a v s = .ok () (s.setCell .oam (n - 0xFE00) v)) ∧
    (0xFF80 ≤ n → n < 0xFFFF → readByte a s = .ok (s.cell .hram (n - 0xFF80)) s ∧
      writeByte a v s = .ok () (s.setCell .hram (n - 0xFF80) v)) ∧
    (n = 0xFFFF → readByte a s = .ok s.mem.ie s ∧ writeByte a v s = .ok () { s with mem := { s.mem with ie := v } }) ∧
    (0xFEA0 ≤ n → n < 0xFF00 → writeByte a v s = .ok () s ∧
      (s.cfg.unusableRead = none →
        readByte a s = .ok (Config.unusableDraw s.draws) { s with draws := s.draws + 1 }) ∧
      (∀ w, s.cfg.unusableRead = some w → readByte a s = .ok w s))

/-- 20 R64, R65, R93, R95: reads of ROM space. R66: a write there never changes the ROM image, nor anything but the
bank controller's registers; without a bank controller it changes nothing. -/
def Obligations.RomSpace : Prop :=
  ∀ (s : State) (a : Word) (v : Byte), a.toNat < 0x8000 →
    (∃ m, writeByte a v s = .ok () { s with mbc := m } ∧ (s.cart.mbc = .noMbc → m = s.mbc)) ∧
    (a.toNat < 0x4000 → readByte a s = .ok (s.cell .rom a.toNat) s) ∧
    (0x4000 ≤ a.toNat → s.cart.mbc = .noMbc → readByte a s = .ok (s.cell .rom a.toNat) s) ∧
    (0x4000 ≤ a.toNat → s.cart.mbc ≠ .noMbc → readByte a s =
      .ok (s.cell .rom (s.mbc.romBank.toNat % 2 ^ (s.cart.romCode + 1) * 0x4000 + (a.toNat - 0x4000))) s)

/-- 20 R94: the four register windows of MBC1, in numbers. -/
def Obligations.Mbc1Windows : Prop :=
  ∀ (s : State) (a : Word) (v : Byte), s.cart.mbc = .mbc1 → a.toNat < 0x8000 →
    ∃ m : MbcRegs, writeByte a v s = .ok () { s with mbc := m } ∧
    let low := if v.toNat % 32 = 0 then 1 else v.toNat % 32
    (a.toNat < 0x2000 → m = { s.mbc with ramEnable := decide (v.toNat % 16 = 10) }) ∧
    (0x2000 ≤ a.toNat → a.toNat < 0x4000 →
      m = { s.mbc with romBank := BitVec.ofNat 7 (s.mbc.romBank.toNat / 32 * 32 + low) }) ∧
    (0x4000 ≤ a.toNat → a.toNat < 0x6000 → s.mbc.mode = false →
      m = { s.mbc with romBank := BitVec.ofNat 7 (s.mbc.romBank.toNat % 32 + v.toNat % 4 * 32) }) ∧
    (0x4000 ≤ a.toNat → a.toNat < 0x6000 → s.mbc.mode = true →
      m = { s.mbc with ramBank := BitVec.ofNat 2 (v.toNat % 4) }) ∧
    (0x6000 ≤ a.toNat → m = { s.mbc with mode := decide (v.toNat % 2 = 1) })

/-- 20 R68, R96, R97, R101: external RAM on MBC1 and without a bank controller. -/
def Obligations.ExternalRam : Prop :=
  ∀ (s : State) (a : Word) (v : Byte), 0xA000 ≤ a.toNat → a.toNat < 0xC000 →
    (s.cart.ramSize = 0 → readByte a s = .stop (.invalidBankDispatch a) s ∧
      writeByte a v s = .stop (.invalidBankDispatch a) s) ∧
    (s.cart.ramSize ≠ 0 → s.cart.mbc = .mbc1 → s.mbc.ramEnable = false →
      readByte a s = .ok 0xFF s ∧ writeByte a v s = .ok () s) ∧
    (s.cart.ramSize ≠ 0 → s.cart.mbc = .mbc1 → s.mbc.ramEnable = true →
      let n := (s.mbc.ramBank.toNat * 0x2000 + (a.toNat - 0xA000)) % s.cart.ramSize
      readByte a s = .ok (s.cell .eram n) s ∧
      writeByte a v s = .ok () { s.setCell .eram n v with mbc := { s.mbc with dirty := true } }) ∧
    (s.cart.ramSize ≠ 0 → s.cart.mbc = .noMbc →
      let n := (a.toNat - 0xA000) % s.cart.ramSize
      readByte a s = .ok (s.cell .eram n) s ∧
      writeByte a v s = .ok () { s.setCell .eram n v with mbc := { s.mbc with dirty := true } })

/-- 20 R73, R75 to R77, R79, and NR52 of R78: what a write to an I/O byte leaves, and the reads that are not shaped. -/
def Obligations.IoWrites : Prop :=
  ∀ (s : State) (v : Byte),
    writeByte 0xFF04 v s = .ok () { s.setIo 0x04 0 with timer := { s.timer with divAcc := 0 } } ∧
    writeByte 0xFF44 v s = .ok () s ∧
    writeByte 0xFF41 v s = .ok () (s.setIo 0x41 ((v &&& 0xF8) ||| (s.io 0x41 &&& 0x07))) ∧
    writeByte 0xFF26 v s = .ok () (s.setIo 0x26 ((v &&& 0xF0) ||| (s.io 0x26 &&& 0x0F))) ∧
    (∀ n, n < 128 → n ∉ [0x04, 0x11, 0x14, 0x16, 0x19, 0x26, 0x41, 0x44, 0x46] →
      writeByte (BitVec.ofNat 16 (0xFF00 + n)) v s = .ok () (s.setIo n v)) ∧
    (∀ n, n < 128 → n ≠ 0 → readByte (BitVec.ofNat 16 (0xFF00 + n)) s = .ok (s.io n) s)

/-- 20 R74: the plain write of P1 and its shaped read, bit by bit. -/
def Obligations.JoypadRead : Prop :=
  ∀ (s : State), (∀ w, writeByte 0xFF00 w s = .ok () (s.setIo 0 w)) ∧ ∃ v, readByte 0xFF00 s = .ok v s ∧ bit v 7 = true ∧ bit v 6 = true ∧
    bit v 5 = bit (s.io 0) 5 ∧ bit v 4 = bit (s.io 0) 4 ∧
    bit v 0 = !((!(bit (s.io 0) 4) && s.buttons.right) || (!(bit (s.io 0) 5) && s.buttons.a)) ∧
    bit v 1 = !((!(bit (s.io 0) 4) && s.buttons.left) || (!(bit (s.io 0) 5) && s.buttons.b)) ∧
    bit v 2 = !((!(bit (s.io 0) 4) && s.buttons.up) || (!(bit (s.io 0) 5) && s.buttons.select)) ∧
    bit v 3 = !((!(bit (s.io 0) 4) && s.buttons.down) || (!(bit (s.io 0) 5) && s.buttons.start))

/-- 20 R80, R101: the DMA copy: the page's bytes in the sprite table, the register at the byte written, nothing else
changed; a page of external RAM that does not exist stops at its first byte. -/
def Obligations.DmaCopy : Prop :=
  ∀ (s : State) (v : Byte), s.cfg.dmaLength ≤ 160 →
    (s.dmaReady v = true → ∃ t, writeByte 0xFF46 v s = .ok () t ∧
      t = { s with mem := { s.mem with oam := t.mem.oam, io := t.mem.io } } ∧
      (∀ n, t.io n = if n = 0x46 then v else s.io n) ∧
      (∀ i, i < s.cfg.dmaLength →
        t.cell .oam i = (s.setIo 0x46 v).busValue (BitVec.ofNat 16 (v.toNat * 256 + i))) ∧
      (∀ i, s.cfg.dmaLength ≤ i → t.cell .oam i = s.cell .oam i)) ∧
    (0 < s.cfg.dmaLength → s.cart.ramSize = 0 → 0xA0 ≤ v.toNat → v.toNat < 0xC0 →
      writeByte 0xFF46 v s = .stop (.invalidBankDispatch (BitVec.ofNat 16 (v.toNat * 256))) (s.setIo 0x46 v))

/-! ## Interrupts, halt and stop -/

/-- 60 R312, R314: with `IME` clear or nothing enabled pending the test changes nothing; else it dispatches the line of
the lowest pending bit. -/
def Obligations.InterruptTest : Prop :=
  ∀ (s : State),
    (s.cpu.ime = false ∨ s.mem.ie &&& s.io 0x0F &&& 0x1F = 0 → testInterrupts s = .ok () s) ∧
    (∀ i : IrqLine, s.cpu.ime = true → bit (s.mem.ie &&& s.io 0x0F) i.bitNo = true →
      (∀ j, j < i.bitNo → bit (s.mem.ie &&& s.io 0x0F) j = false) → testInterrupts s = dispatch i s)

/-- 60 R313, R311, 00 R10: what a dispatch does, in order. 60 R305: a stop in its push leaves `IF`, `IME` and `PC`. -/
def Obligations.InterruptDispatch : Prop :=
  ∀ (s : State) (i : IrqLine),
    (∀ u, push16 s.cpu.pc (s.onCpu Cpu.wake) = .ok () u →
      u.cpu = { s.cpu.wake with sp := s.cpu.sp - 2 } ∧
      ∃ t, dispatch i s = .ok () t ∧
        t.cpu = { s.cpu.wake with
          sp := s.cpu.sp - 2, ime := false, pc := BitVec.ofNat 16 (0x40 + 8 * i.bitNo)
          ticks := s.cpu.ticks + s.cfg.intDispatchTicks } ∧
        (∀ k, k < 8 → bit (t.io 0x0F) k = (decide (k ≠ i.bitNo) && bit (u.io 0x0F) k)) ∧
        t = { u.setIo 0x0F (t.io 0x0F) with cpu := t.cpu }) ∧
    (∀ info u, push16 s.cpu.pc (s.onCpu Cpu.wake) = .stop info u →
      dispatch i s = .stop info u ∧ u.io 0x0F = s.io 0x0F ∧ u.cpu.ime = s.cpu.ime ∧ u.cpu.pc = s.cpu.pc)

/-- 60 R320, R321: the step of a halted machine: it idles, or it wakes, and with `IME` clear nothing is dispatched and
no tick passes. -/
def Obligations.HaltedStep : Prop :=
  ∀ (s : State), s.hostPlan = [] → s.cpu.runState = .halted →
    (s.mem.ie &&& s.io 0x0F &&& 0x1F = 0 → step s =
      .next (State.syncDevices { s with cpu := { s.cpu with ticks := s.cpu.ticks + s.cfg.haltIdleTicks } })) ∧
    (s.mem.ie &&& s.io 0x0F &&& 0x1F ≠ 0 → s.cpu.ime = false → step s =
      .next (State.syncDevices { s with cpu := { s.cpu with runState := .running } })) ∧
    (∀ (i : IrqLine) (t : State), s.cpu.ime = true → firstLine (s.mem.ie &&& s.io 0x0F &&& 0x1F) = some i →
      dispatch i { s with cpu := { s.cpu with runState := .running } } = .ok () t → step s = .next t.syncDevices)

/-- 60 R300, R322: no step exists in the stopped and in the faulted state (the answers are the model's, log 1 and log
2); the resume move, allowed in the stopped state only, sets the machine running there; that it changes nothing in any
other state is the model's choice (log 4, DEDUCED). -/
def Obligations.StoppedAndFaultedStates : Prop :=
  ∀ (s : State),
    (s.hostPlan = [] → s.cpu.runState = .stopped → step s = .next s) ∧
    (∀ info, s.hostPlan = [] → s.cpu.runState = .faulted info → step s = .fault info) ∧
    (s.cpu.runState = .stopped →
      hostMove .resumeFromStop s = .next { s with cpu := { s.cpu with runState := .running } }) ∧
    (s.cpu.runState ≠ .stopped → hostMove .resumeFromStop s = .next s)

/-! ## Devices -/

/-- 60 R323: after the synchronization the three local counts equal the CPU's ticks; the devices leave the CPU, the
RAM, the ROM and the bank controller alone, and no request is withdrawn. -/
def Obligations.SyncDevices : Prop :=
  ∀ (s : State), s.timer.localTicks ≤ s.cpu.ticks → s.video.localTicks ≤ s.cpu.ticks →
    s.audio.localTicks ≤ s.cpu.ticks →
    let t := s.syncDevices
    t.timer.localTicks = s.cpu.ticks ∧ t.video.localTicks = s.cpu.ticks ∧ t.audio.localTicks = s.cpu.ticks ∧
    t.cpu = s.cpu ∧ t.cart = s.cart ∧ t.mbc = s.mbc ∧ t.buttons = s.buttons ∧ t.cfg = s.cfg ∧
    t.mem = { s.mem with io := t.mem.io, framebuffer := t.mem.framebuffer } ∧
    ∀ k, bit (s.io 0x0F) k = true → bit (t.io 0x0F) k = true

/-- 60 R331: with the default period DIV counts once in 256 ticks and wraps, for any number of ticks. -/
def Obligations.DividerCounts : Prop :=
  ∀ (s : State) (n : Nat), s.cfg.divPeriod = 256 → s.timer.divAcc < 256 →
    let t := iterate State.timerStep n s
    (t.io 0x04).toNat = ((s.io 0x04).toNat + (s.timer.divAcc + n) / 256) % 256 ∧
    t.timer.divAcc = (s.timer.divAcc + n) % 256

/-- 60 R332: the programmable counter's tick. -/
def Obligations.TimaTick : Prop :=
  ∀ (s : State),
    let period := match (s.io 0x07).toNat % 4 with
      | 0 => s.cfg.timaPeriod0
      | 1 => s.cfg.timaPeriod1
      | 2 => s.cfg.timaPeriod2
      | _ => s.cfg.timaPeriod3
    let due := { s with timer := { s.timer with timaAcc := 0 } }
    (bit (s.io 0x07) 2 = false → s.counterTick = s) ∧
    (bit (s.io 0x07) 2 = true → s.timer.timaAcc + 1 < period →
      s.counterTick = { s with timer := { s.timer with timaAcc := s.timer.timaAcc + 1 } }) ∧
    (bit (s.io 0x07) 2 = true → period ≤ s.timer.timaAcc + 1 → s.io 0x05 ≠ 0xFF →
      s.counterTick = due.setIo 0x05 (s.io 0x05 + 1)) ∧
    (bit (s.io 0x07) 2 = true → period ≤ s.timer.timaAcc + 1 → s.io 0x05 = 0xFF →
      s.counterTick = (due.setIo 0x05 (s.io 0x06)).setIo 0x0F (s.io 0x0F ||| 0x04))

/-- 60 R346: the scanline change: LY, the coincidence flag and the request it may make. -/
def Obligations.ScanlineCompare : Prop :=
  ∀ (s : State) (v : Byte),
    let t := s.setLy v
    t.io 0x44 = v ∧
    (t.io 0x41).toNat = (s.io 0x41).toNat / 8 * 8 + (if v = s.io 0x45 then 4 else 0) + (s.io 0x41).toNat % 4 ∧
    t.io 0x0F = (if v = s.io 0x45 ∧ bit (s.io 0x41) 6 = true then s.io 0x0F ||| 0x02 else s.io 0x0F) ∧
    t = { s with mem := { s.mem with io := t.mem.io } } ∧
    ∀ n, n ≠ 0x44 → n ≠ 0x41 → n ≠ 0x0F → t.io n = s.io n

/-- 60 R343: the end of pixel-transfer. -/
def Obligations.TransferTick : Prop :=
  ∀ (s : State), s.video.mode = .transfer →
    let t := s.videoStep
    (s.video.modeTicks + 1 < s.cfg.tXfer → t = { s with video := { s.video with
      localTicks := s.video.localTicks + 1, modeTicks := s.video.modeTicks + 1 } }) ∧
    (s.cfg.tXfer ≤ s.video.modeTicks + 1 →
      t.video = { s.video with localTicks := s.video.localTicks + 1, modeTicks := 0, mode := .hblank } ∧
      t.io 0x41 = s.io 0x41 &&& 0xFC ∧
      t.io 0x0F = (if bit (s.io 0x41) 3 then s.io 0x0F ||| 0x02 else s.io 0x0F) ∧
      t = { s with video := t.video, mem := { s.mem with io := t.mem.io } } ∧
      ∀ n, n ≠ 0x41 → n ≠ 0x0F → t.io n = s.io n)

/-- 60 R344, R349: the end of the last visible line enters V-blank, requests the vblank line whatever the registers
hold, and notifies the host once; the end of an earlier line goes back to OAM-search without a notification. -/
def Obligations.HblankTick : Prop :=
  ∀ (s : State), s.video.mode = .hblank → s.cfg.tHblank ≤ s.video.modeTicks + 1 →
    let t := s.videoStep
    t.io 0x44 = s.io 0x44 + 1 ∧ t.video.modeTicks = 0 ∧
    (s.io 0x44 = 143 → t.video.mode = .vblank ∧ bit (t.io 0x0F) 0 = true ∧
      t.video.notifications = s.video.notifications + 1 ∧ t.io 0x41 &&& 0x03 = 1 ∧
      (bit (s.io 0x41) 4 = true → bit (t.io 0x0F) 1 = true)) ∧
    (s.io 0x44 ≠ 143 → t.video.mode = .oamSearch ∧ bit (t.io 0x0F) 0 = bit (s.io 0x0F) 0 ∧
      t.video.notifications = s.video.notifications ∧ t.io 0x41 &&& 0x03 = 2 ∧
      (bit (s.io 0x41) 5 = true → bit (t.io 0x0F) 1 = true))

/-- 60 R341 ("One scanline is 80 + 172 + 204 = 456 ticks"): from the start of a visible line but the last, 456 ticks
lead to the start of the next one, with no notification. -/
def Obligations.ScanlineTakes456Ticks : Prop :=
  ∀ (s : State), s.cfg.tOam = 80 → s.cfg.tXfer = 172 → s.cfg.tHblank = 204 → s.video.mode = .oamSearch →
    s.video.modeTicks = 0 → (s.io 0x44).toNat < 143 →
    let t := iterate State.videoStep 456 s
    t.video = { s.video with localTicks := s.video.localTicks + 456 } ∧ t.io 0x44 = s.io 0x44 + 1

/-- 60 R350, R355: the composition of a line leaves in the framebuffer the shade of every pixel of that line, computed
from the state before, and changes nothing else. R353: the sprites it uses are entries of the table that cover the line,
at most the maximum, none while LCDC bit 1 is clear. -/
def Obligations.RenderedLine : Prop :=
  ∀ (s : State) (ly : Nat), ly < 144 →
    let t := s.renderLine ly
    t = { s with mem := { s.mem with framebuffer := t.mem.framebuffer } } ∧
    (∀ x, x < 160 → (t.cell .framebuffer ((ly * 160 + x) / 4)).toNat / 4 ^ (x % 4) % 4 =
      s.shade (s.selectedSprites ly) ly x) ∧
    (∀ n, n < ly * 40 ∨ ly * 40 + 40 ≤ n → t.cell .framebuffer n = s.cell .framebuffer n) ∧
    (s.selectedSprites ly).length ≤ s.cfg.maxSpritesPerLine ∧
    (bit (s.io 0x40) 1 = false → s.selectedSprites ly = []) ∧
    ∀ o ∈ s.selectedSprites ly, ∃ i, i < 40 ∧ o = s.sprite i ∧ (s.cell .oam (4 * i)).toNat ≤ ly + 16 ∧
      ly + 16 < (s.cell .oam (4 * i)).toNat + (if bit (s.io 0x40) 2 then 16 else 8)

/-- 60 R366, R369, 20 R78: a write with bit 7 set to NR24 stores the byte and triggers channel 2. R362: the length clock
silences a channel at zero when length is enabled. -/
def Obligations.TriggerAndLength : Prop :=
  (∀ (s : State) (v : Byte), bit v 7 = true → ∃ t, writeByte 0xFF19 v s = .ok () t ∧ t.io 0x19 = v ∧
    t.audio = { s.audio with ch2 :=
      { enabled := true
        length := if s.audio.ch2.length = 0 then 64 else s.audio.ch2.length
        freqTimer := (2048 - (v.toNat % 8 * 256 + (s.io 0x18).toNat)) * 4
        envTimer := (s.io 0x17).toNat % 8
        volume := (s.io 0x17).toNat / 16
        dutyPos := s.audio.ch2.dutyPos } } ∧
    (t.io 0x26).toNat = (s.io 0x26).toNat / 4 * 4 + 2 + bitVal s.audio.ch1.enabled ∧
    ∀ n, n ≠ 0x19 → n ≠ 0x26 → t.io n = s.io n) ∧
  ∀ (s : State) (c : Chan),
    let t := s.lengthClock c
    (bit (s.io (nr c 4)) 6 = false ∨ (s.chan c).length = 0 → t = s) ∧
    (bit (s.io (nr c 4)) 6 = true → 1 < (s.chan c).length →
      t = s.setChan c { s.chan c with length := (s.chan c).length - 1 }) ∧
    (bit (s.io (nr c 4)) 6 = true → (s.chan c).length = 1 →
      t.chan c = { s.chan c with length := 0, enabled := false } ∧
      bit (t.io 0x26) (match c with | .one => 0 | .two => 1) = false)

/-! ## Host, boot, reset -/

/-- 60 R375: the button move. 20 R97: a successful save clears the dirty flag, a failed one changes nothing. 60 R368:
a drain takes the oldest samples. -/
def Obligations.HostMoves : Prop :=
  ∀ (s : State) (name : Button) (pressed : Bool), s.isFaulted = false →
    let selected := match name with
      | .right | .left | .up | .down => !(bit (s.io 0x00) 4)
      | .a | .b | .select | .start => !(bit (s.io 0x00) 5)
    let moved : State := { s with buttons := s.buttons.set name pressed }
    hostMove (.setButton name pressed) s = .next
      (if s.buttons.get name = false ∧ pressed = true ∧ selected = true then moved.setIo 0x0F (s.io 0x0F ||| 0x10)
       else moved) ∧
    hostMove (.save true) s = .next { s with mbc := { s.mbc with dirty := false } } ∧
    hostMove (.save false) s = .next s ∧
    ∀ n, hostMove (.drainSamples n) s = .next { s with audio := { s.audio with ring := s.audio.ring.drop n } }

/-- 70 R400, R401: the CPU after boot, whatever the cartridge. -/
def Obligations.CpuAfterBoot : Prop :=
  let booted (c : Cpu) : Prop :=
    c.a = 0x01 ∧ c.f = 0xB0 ∧ c.b = 0x00 ∧ c.c = 0x13 ∧ c.d = 0x00 ∧ c.e = 0xD8 ∧ c.h = 0x01 ∧ c.l = 0x4D ∧
    c.sp = 0xFFFE ∧ c.pc = 0x0100 ∧ c.ime = false ∧ c.eiPending = false ∧ c.runState = .running ∧ c.ticks = 0
  booted State.reset.cpu ∧
  ∀ (s t : State) (image : CartImage), s.boot image = .next t → t.isFaulted = false → booted t.cpu

/-- 70 R402, R403, R405, R407, 20 R90, 60 R303: what boot makes of a cartridge that meets the loader's preconditions: the
binding, the bank controller, the timer, the video unit, the audio unit with both channels silent, the joypad with no
button pressed, ROM, `IE`, LY and the save file; or, for a type outside the map, the stop. -/
def Obligations.BootOfACartridge : Prop :=
  let silent : Channel :=
    { enabled := false, volume := 0, envTimer := 0, length := 0, freqTimer := 0, dutyPos := 0 }
  ∀ (s : State) (image : CartImage), image.wellFormed = true → ∃ t, s.boot image = .next t ∧
    ((s.cfg.cartTypeMap.find? fun e => e.1 == (image.byteAt 0x147).toNat) = none →
      t.cpu.runState = .faulted (.unsupportedCartridgeType (image.byteAt 0x147))) ∧
    (∀ e, (s.cfg.cartTypeMap.find? fun e => e.1 == (image.byteAt 0x147).toNat) = some e →
      t.isFaulted = false ∧ t.cart = { mbc := e.2, romCode := image.romCode, ramCode := image.ramCode } ∧
      t.mbc = { ramEnable := false, romBank := 1, ramBank := 0, mode := false, dirty := false } ∧
      t.timer = { localTicks := 0, divAcc := 0, timaAcc := 0 } ∧
      t.video.localTicks = 0 ∧ t.video.mode = .vblank ∧ t.video.modeTicks = 0 ∧
      t.audio = { localTicks := 0, fsAcc := 0, fsStep := 0, sampleAcc := 0, ring := [], ch1 := silent, ch2 := silent,
                  sweepEnabled := false, sweepTimer := 0, shadowFreq := 0 } ∧
      (∀ name : Button, t.buttons.get name = false) ∧
      t.mem.rom = image.rom ∧ t.mem.ie = 0 ∧ t.io 0x44 = s.cfg.lyReset ∧
      (∀ bytes, image.save = some bytes → ∀ n v, bytes[n]? = some v → t.cell .eram n = v))

/-- 70 R404: the I/O bytes after reset, by address. -/
def Obligations.IoAfterReset : Prop :=
  let table : List (Nat × Byte) :=
    [(0x00, 0xCF), (0x02, 0x7E), (0x10, 0x80), (0x11, 0xBF), (0x12, 0xF3), (0x13, 0xFF), (0x14, 0xBF), (0x16, 0x3F),
     (0x18, 0xFF), (0x19, 0xBF), (0x24, 0x77), (0x25, 0xF3), (0x26, 0xF0), (0x40, 0x91), (0x41, 0x81), (0x44, 0x90),
     (0x46, 0xFF), (0x47, 0xFC), (0x48, 0xFF), (0x49, 0xFF)]
  (∀ c ∈ table, State.reset.io c.1 = c.2) ∧
  (∀ n, (∀ c ∈ table, c.1 ≠ n) → State.reset.io n = 0) ∧ State.reset.mem.ie = 0

/-! ## Invariants -/

/-- The invariants hold after reset. -/
def Obligations.ResetInv : Prop := State.reset.Inv

/-- 10 R22: "`F[3:0] = 0` is an invariant of every reachable state"; 20 R95: "so `rom_bank & 0x1F` is never 0". -/
def Obligations.StepKeepsFlagNibbleAndBank : Prop :=
  ∀ s t : State, step s = .next t → (s.FlagsInv → t.FlagsInv) ∧ (s.BankInv → t.BankInv)

/-- Every step keeps every store in its canonical form and inside its size. -/
def Obligations.StepKeepsMemoryForm : Prop :=
  ∀ s t : State, s.cfg.wellFormed = true → s.MemoryInv → step s = .next t →
    t.cfg.wellFormed = true ∧ t.MemoryInv

/-- 60 R347: STAT shows the mode, and the scanline is in the mode's range. -/
def Obligations.StepKeepsVideoState : Prop :=
  ∀ s t : State, s.cfg.wellFormed = true → s.VideoInv → step s = .next t → t.VideoInv

/-- 60 R369: NR52 shows the enable flags; volumes and lengths stay in their ranges. -/
def Obligations.StepKeepsAudioState : Prop :=
  ∀ s t : State, s.cfg.wellFormed = true → s.AudioInv → step s = .next t → t.AudioInv

/-- 60 R323: the devices' tick counts agree with the CPU's. -/
def Obligations.StepKeepsTickCounts : Prop :=
  ∀ s t : State, s.TicksInv → step s = .next t → t.TicksInv

end
end

