-- ==== Sys2Proof/Laws/Bits.lean ====
section
/-! SUPPORT. Laws of the bit fields and byte order (00 R7, R9; 20 R82) and of the flag byte (10 R22, R23). -/
namespace Sys2Proof

@[simp] theorem hiByte_wordOf (hi lo : Byte) : hiByte (wordOf hi lo) = hi := by
  unfold hiByte wordOf
  ext i h
  rw [BitVec.getElem_extractLsb', BitVec.getLsbD_append, if_neg (by omega), Nat.add_sub_cancel_left,
    BitVec.getLsbD_eq_getElem h]

@[simp] theorem loByte_wordOf (hi lo : Byte) : loByte (wordOf hi lo) = lo := by
  unfold loByte wordOf
  ext i h
  rw [BitVec.getElem_extractLsb', BitVec.getLsbD_append, if_pos (by omega), Nat.zero_add,
    BitVec.getLsbD_eq_getElem h]

@[simp] theorem wordOf_hi_lo (v : Word) : wordOf (hiByte v) (loByte v) = v := by
  unfold hiByte loByte wordOf
  ext i h
  rw [BitVec.getElem_append]
  split
  · rw [BitVec.getElem_extractLsb', Nat.zero_add, BitVec.getLsbD_eq_getElem h]
  · rw [BitVec.getElem_extractLsb', show 8 + (i - 8) = i by omega, BitVec.getLsbD_eq_getElem h]

namespace Machine

/-- The low nibble of the flag byte is zero (10 R22). -/
@[simp] theorem Flags.toByte_lowNibble (f : Flags) : f.toByte &&& 0x0F = 0 := by
  rcases f with ⟨z, n, h, c⟩
  revert z n h c; decide

/-- The flags of the byte that holds four flags are those flags. -/
@[simp] theorem flagsOf_toByte (f : Flags) : flagsOf f.toByte = f := by
  rcases f with ⟨z, n, h, c⟩
  revert z n h c; decide

end Machine
end Sys2Proof
end

