-- ==== Sys2Proof/Laws/Memory.lean ====
section
/-! SUPPORT. The laws of memory: a read after a write, and the canonical form is kept. -/
namespace Sys2Proof.Machine

/-- Every listed index is above a bound. -/
def Memory.above (bound : Nat) (m : Memory) : Prop := ∀ c ∈ m, bound < c.1

theorem Memory.sorted_cons {c : Host.Cell} {m : Memory} :
    Memory.sorted (c :: m) = true ↔ Memory.above c.1 m ∧ Memory.sorted m = true := by
  induction m generalizing c with
  | nil => simp [Memory.sorted, Memory.above]
  | cons d rest ih =>
    simp only [Memory.sorted, Bool.and_eq_true, decide_eq_true_eq]
    constructor
    · rintro ⟨hcd, hs⟩
      refine ⟨?_, hs⟩
      intro e he
      rcases List.mem_cons.mp he with rfl | he
      · exact hcd
      · exact lt_trans hcd ((ih.mp hs).1 e he)
    · rintro ⟨ha, hs⟩
      exact ⟨ha d (List.mem_cons_self ..), hs⟩

theorem Memory.lookup_above {bound index : Nat} {m : Memory} (h : Memory.above bound m) (hi : index ≤ bound) :
    m.lookup index = none := by
  induction m with
  | nil => rfl
  | cons c rest ih =>
    have hc : bound < c.1 := h c (List.mem_cons_self ..)
    have : ¬ c.1 = index := by omega
    simp only [Memory.lookup, if_neg this]
    exact ih fun e he => h e (List.mem_cons_of_mem _ he)

theorem Memory.lookup_insert_same (m : Memory) (index : Nat) (v : Byte) : (m.insert index v).lookup index = some v := by
  induction m with
  | nil => simp [Memory.insert, Memory.lookup]
  | cons c rest ih =>
    simp only [Memory.insert]
    split_ifs with h1 h2
    · simp [Memory.lookup]
    · simp [Memory.lookup]
    · have : ¬ c.1 = index := by omega
      simp [Memory.lookup, this, ih]

theorem Memory.lookup_insert_other (m : Memory) {index other : Nat} (v : Byte) (h : other ≠ index) :
    (m.insert index v).lookup other = m.lookup other := by
  induction m with
  | nil => simp [Memory.insert, Memory.lookup, Ne.symm h]
  | cons c rest ih =>
    simp only [Memory.insert]
    split_ifs with h1 h2
    · simp [Memory.lookup, Ne.symm h]
    · simp only [Memory.lookup, if_neg (Ne.symm h)]
      rw [if_neg (by omega)]
    · simp only [Memory.lookup, ih]

theorem Memory.lookup_erase_same (m : Memory) (index : Nat) : (m.erase index).lookup index = none := by
  induction m with
  | nil => rfl
  | cons c rest ih =>
    simp only [Memory.erase]
    split_ifs with h
    · exact ih
    · simp [Memory.lookup, h, ih]

theorem Memory.lookup_erase_other (m : Memory) {index other : Nat} (h : other ≠ index) :
    (m.erase index).lookup other = m.lookup other := by
  induction m with
  | nil => rfl
  | cons c rest ih =>
    simp only [Memory.erase]
    split_ifs with hc
    · simp only [Memory.lookup, ih]; rw [if_neg (by omega)]
    · simp only [Memory.lookup, ih]

/-- A read after a write to the same index gives the value written. -/
@[simp] theorem Memory.read_write_same (st : Store) (m : Memory) (index : Nat) (v : Byte) :
    Memory.read st (Memory.write st m index v) index = some v := by
  unfold Memory.read Memory.write
  split_ifs with h
  · rw [Memory.lookup_erase_same, h]
  · rw [Memory.lookup_insert_same]

/-- A write leaves every other index alone. -/
theorem Memory.read_write_other (st : Store) (m : Memory) {index other : Nat} (v : Byte) (h : other ≠ index) :
    Memory.read st (Memory.write st m index v) other = Memory.read st m other := by
  unfold Memory.read Memory.write
  split_ifs
  · rw [Memory.lookup_erase_other m h]
  · rw [Memory.lookup_insert_other m v h]

theorem Memory.mem_insert {m : Memory} {index : Nat} {v : Byte} {c : Host.Cell} (h : c ∈ m.insert index v) :
    c = (index, v) ∨ c ∈ m := by
  induction m with
  | nil => simpa [Memory.insert] using h
  | cons d rest ih =>
    simp only [Memory.insert] at h
    split_ifs at h with h1 h2
    · rcases List.mem_cons.mp h with h | h
      · exact .inl h
      · exact .inr h
    · rcases List.mem_cons.mp h with h | h
      · exact .inl h
      · exact .inr (List.mem_cons_of_mem _ h)
    · rcases List.mem_cons.mp h with h | h
      · exact .inr (h ▸ List.mem_cons_self ..)
      · exact (ih h).imp_right (List.mem_cons_of_mem _)

theorem Memory.mem_erase {m : Memory} {index : Nat} {c : Host.Cell} (h : c ∈ m.erase index) : c ∈ m := by
  induction m with
  | nil => exact h
  | cons d rest ih =>
    simp only [Memory.erase] at h
    split_ifs at h
    · exact List.mem_cons_of_mem _ (ih h)
    · rcases List.mem_cons.mp h with h | h
      · exact h ▸ List.mem_cons_self ..
      · exact List.mem_cons_of_mem _ (ih h)

theorem Memory.sorted_insert {m : Memory} (h : m.sorted = true) (index : Nat) (v : Byte) :
    (m.insert index v).sorted = true := by
  induction m with
  | nil => rfl
  | cons c rest ih =>
    obtain ⟨ha, hs⟩ := Memory.sorted_cons.mp h
    simp only [Memory.insert]
    split_ifs with h1 h2
    · refine Memory.sorted_cons.mpr ⟨?_, h⟩
      intro e he
      rcases List.mem_cons.mp he with rfl | he
      · exact h1
      · exact lt_trans h1 (ha e he)
    · exact Memory.sorted_cons.mpr ⟨h2 ▸ ha, hs⟩
    · refine Memory.sorted_cons.mpr ⟨?_, ih hs⟩
      intro e he
      rcases Memory.mem_insert he with rfl | he
      · show c.1 < index; omega
      · exact ha e he

theorem Memory.sorted_erase {m : Memory} (h : m.sorted = true) (index : Nat) : (m.erase index).sorted = true := by
  induction m with
  | nil => rfl
  | cons c rest ih =>
    obtain ⟨ha, hs⟩ := Memory.sorted_cons.mp h
    simp only [Memory.erase]
    split_ifs
    · exact ih hs
    · exact Memory.sorted_cons.mpr ⟨fun e he => ha e (Memory.mem_erase he), ih hs⟩

theorem Memory.wf_iff (st : Store) (m : Memory) :
    Memory.wf st m = true ↔ m.sorted = true ∧ ∀ c ∈ m, unlisted st c.1 ≠ some c.2 := by
  simp [Memory.wf]

/-- A write keeps the canonical form. -/
theorem Memory.wf_write {st : Store} {m : Memory} (h : Memory.wf st m = true) (index : Nat) (v : Byte) :
    Memory.wf st (Memory.write st m index v) = true := by
  obtain ⟨hs, hu⟩ := (Memory.wf_iff st m).mp h
  refine (Memory.wf_iff st _).mpr ?_
  unfold Memory.write
  split_ifs with hv
  · exact ⟨Memory.sorted_erase hs index, fun c hc => hu c (Memory.mem_erase hc)⟩
  · refine ⟨Memory.sorted_insert hs index v, fun c hc => ?_⟩
    rcases Memory.mem_insert hc with rfl | hc
    · exact hv
    · exact hu c hc

theorem Memory.wf_nil (st : Store) : Memory.wf st [] = true := rfl

/-- Storing a list of bytes keeps the canonical form. -/
theorem Memory.wf_writeAll {st : Store} {m : Memory} (h : Memory.wf st m = true) (cells : List (Nat × Byte)) :
    Memory.wf st (Memory.writeAll st m cells) = true := by
  induction cells generalizing m with
  | nil => exact h
  | cons c rest ih => exact ih (Memory.wf_write h c.1 c.2)

/-- Where a write lists an index, it is the index written or one that was listed. -/
theorem Memory.mem_write {st : Store} {m : Memory} {index : Nat} {v : Byte} {c : Host.Cell}
    (h : c ∈ Memory.write st m index v) : c = (index, v) ∨ c ∈ m := by
  unfold Memory.write at h
  split_ifs at h
  · exact .inr (Memory.mem_erase h)
  · exact Memory.mem_insert h

theorem Memory.ofBytes_above (bound index : Nat) (h : bound < index) (bytes : List Byte) :
    Memory.above bound (Memory.ofBytes index bytes) := by
  induction bytes generalizing index with
  | nil => intro c hc; cases hc
  | cons v rest ih =>
    intro c hc
    rcases List.mem_cons.mp hc with rfl | hc
    · exact h
    · exact ih (index + 1) (by omega) c hc

theorem Memory.sorted_ofBytes (index : Nat) (bytes : List Byte) : (Memory.ofBytes index bytes).sorted = true := by
  induction bytes generalizing index with
  | nil => rfl
  | cons v rest ih => exact Memory.sorted_cons.mpr ⟨Memory.ofBytes_above index (index + 1) (by omega) rest, ih _⟩

/-- A save file's bytes are in canonical form as external RAM. -/
theorem Memory.wf_ofBytes_eram (index : Nat) (bytes : List Byte) :
    Memory.wf .eram (Memory.ofBytes index bytes) = true := by
  refine (Memory.wf_iff _ _).mpr ⟨Memory.sorted_ofBytes index bytes, fun c _ => ?_⟩
  simp [unlisted]

/-- A canonical ROM image is a canonical store. -/
theorem Memory.wf_rom_of_canonical {cells : List (Nat × Byte)} (h : cellsCanonical cells = true) :
    Memory.wf .rom cells = true := by
  refine (Memory.wf_iff _ _).mpr ?_
  induction cells with
  | nil => exact ⟨rfl, fun c hc => by cases hc⟩
  | cons c rest ih =>
    cases rest with
    | nil =>
      simp only [cellsCanonical] at h
      refine ⟨rfl, fun e he => ?_⟩
      rcases List.mem_singleton.mp he with rfl
      simp [unlisted]
      intro hz; simp [← hz] at h
    | cons d rest =>
      simp only [cellsCanonical, Bool.and_eq_true, decide_eq_true_eq, bne_iff_ne] at h
      obtain ⟨⟨hz, hlt⟩, hr⟩ := h
      obtain ⟨hs, hu⟩ := ih hr
      refine ⟨by simp [Memory.sorted, hlt, hs], fun e he => ?_⟩
      rcases List.mem_cons.mp he with rfl | he
      · simpa [unlisted] using fun h0 => hz h0.symm
      · exact hu e he

/-! ### The same laws on the state -/

@[simp] theorem State.cell_setCell_same (s : State) (st : Store) (n : Nat) (v : Byte) :
    (s.setCell st n v).cell st n = v := by
  simp [State.cell, State.setCell]
  cases st <;> simp [Stores.get, Stores.put]

theorem State.cell_setCell_other (s : State) {st st' : Store} {n n' : Nat} (v : Byte) (h : st' ≠ st ∨ n' ≠ n) :
    (s.setCell st n v).cell st' n' = s.cell st' n' := by
  by_cases hst : st' = st
  · subst hst
    have hn : n' ≠ n := h.resolve_left (fun hne => hne rfl)
    unfold State.cell State.setCell
    have : ((s.mem.put st' (Memory.write st' (s.mem.get st') n v)).get st') =
        Memory.write st' (s.mem.get st') n v := by cases st' <;> rfl
    simp only [this, Memory.read_write_other st' _ v hn]
  · unfold State.cell State.setCell
    have : ((s.mem.put st (Memory.write st (s.mem.get st) n v)).get st') = s.mem.get st' := by
      cases st <;> cases st' <;> first | rfl | exact absurd rfl hst
    simp only [this]

@[simp] theorem State.io_setIo_same (s : State) (n : Nat) (v : Byte) : (s.setIo n v).io n = v :=
  State.cell_setCell_same s .io n v

theorem State.io_setIo_other (s : State) {n n' : Nat} (v : Byte) (h : n' ≠ n) : (s.setIo n v).io n' = s.io n' :=
  State.cell_setCell_other s v (.inr h)

theorem State.cell_setIo_other (s : State) {st : Store} (n n' : Nat) (v : Byte) (h : st ≠ .io) :
    (s.setIo n v).cell st n' = s.cell st n' :=
  State.cell_setCell_other s v (.inl h)

/-- The canonical form of every store (10 R31). -/
def Stores.wf (m : Stores) : Prop := ∀ st, Memory.wf st (m.get st) = true

/-- The stores right after reset list nothing. -/
theorem Stores.wf_reset : State.reset.mem.wf := fun st => by cases st <;> rfl

theorem Stores.wf_put {m : Stores} (h : m.wf) {st : Store} {x : Memory} (hx : Memory.wf st x = true) :
    (m.put st x).wf := by
  intro st'
  by_cases hst : st' = st
  · subst hst; cases st' <;> simpa [Stores.get, Stores.put] using hx
  · have : (m.put st x).get st' = m.get st' := by
      cases st <;> cases st' <;> first | rfl | exact absurd rfl hst
    rw [this]; exact h st'

/-- A store of a byte keeps the canonical form of every store. -/
theorem State.wf_setCell {s : State} (h : s.mem.wf) (st : Store) (n : Nat) (v : Byte) : (s.setCell st n v).mem.wf :=
  Stores.wf_put h (Memory.wf_write (h st) n v)

theorem State.wf_setIo {s : State} (h : s.mem.wf) (n : Nat) (v : Byte) : (s.setIo n v).mem.wf := State.wf_setCell h .io n v

end Sys2Proof.Machine
end

