-- ==== Sys2Proof/Laws/State.lean ====
section
/-! SUPPORT. What each update of the state leaves in each field: one lemma per field per update, all by `rfl`. -/
namespace Sys2Proof.Machine

/-! ### `State.onCpu` -/

@[simp] theorem State.onCpu_cpu (s : State) (f : Cpu → Cpu) : (s.onCpu f).cpu = f s.cpu := rfl
@[simp] theorem State.onCpu_cfg (s : State) (f : Cpu → Cpu) : (s.onCpu f).cfg = s.cfg := rfl
@[simp] theorem State.onCpu_mem (s : State) (f : Cpu → Cpu) : (s.onCpu f).mem = s.mem := rfl
@[simp] theorem State.onCpu_cart (s : State) (f : Cpu → Cpu) : (s.onCpu f).cart = s.cart := rfl
@[simp] theorem State.onCpu_mbc (s : State) (f : Cpu → Cpu) : (s.onCpu f).mbc = s.mbc := rfl
@[simp] theorem State.onCpu_timer (s : State) (f : Cpu → Cpu) : (s.onCpu f).timer = s.timer := rfl
@[simp] theorem State.onCpu_video (s : State) (f : Cpu → Cpu) : (s.onCpu f).video = s.video := rfl
@[simp] theorem State.onCpu_audio (s : State) (f : Cpu → Cpu) : (s.onCpu f).audio = s.audio := rfl
@[simp] theorem State.onCpu_buttons (s : State) (f : Cpu → Cpu) : (s.onCpu f).buttons = s.buttons := rfl
@[simp] theorem State.onCpu_draws (s : State) (f : Cpu → Cpu) : (s.onCpu f).draws = s.draws := rfl
@[simp] theorem State.onCpu_boots (s : State) (f : Cpu → Cpu) : (s.onCpu f).boots = s.boots := rfl
@[simp] theorem State.onCpu_hostPlan (s : State) (f : Cpu → Cpu) : (s.onCpu f).hostPlan = s.hostPlan := rfl
@[simp] theorem State.onCpu_onCpu (s : State) (f g : Cpu → Cpu) : (s.onCpu f).onCpu g = s.onCpu (fun c => g (f c)) := rfl
@[simp] theorem State.onCpu_id (s : State) : s.onCpu (fun c => c) = s := rfl

/-! ### `State.setCell` and `State.setIo` -/

@[simp] theorem State.setCell_cpu (s : State) (st : Store) (n : Nat) (v : Byte) : (s.setCell st n v).cpu = s.cpu := rfl
@[simp] theorem State.setCell_cfg (s : State) (st : Store) (n : Nat) (v : Byte) : (s.setCell st n v).cfg = s.cfg := rfl
@[simp] theorem State.setCell_cart (s : State) (st : Store) (n : Nat) (v : Byte) : (s.setCell st n v).cart = s.cart := rfl
@[simp] theorem State.setCell_mbc (s : State) (st : Store) (n : Nat) (v : Byte) : (s.setCell st n v).mbc = s.mbc := rfl
@[simp] theorem State.setCell_timer (s : State) (st : Store) (n : Nat) (v : Byte) : (s.setCell st n v).timer = s.timer := rfl
@[simp] theorem State.setCell_video (s : State) (st : Store) (n : Nat) (v : Byte) : (s.setCell st n v).video = s.video := rfl
@[simp] theorem State.setCell_audio (s : State) (st : Store) (n : Nat) (v : Byte) : (s.setCell st n v).audio = s.audio := rfl
@[simp] theorem State.setCell_buttons (s : State) (st : Store) (n : Nat) (v : Byte) :
    (s.setCell st n v).buttons = s.buttons := rfl
@[simp] theorem State.setCell_draws (s : State) (st : Store) (n : Nat) (v : Byte) : (s.setCell st n v).draws = s.draws := rfl
@[simp] theorem State.setCell_boots (s : State) (st : Store) (n : Nat) (v : Byte) : (s.setCell st n v).boots = s.boots := rfl
@[simp] theorem State.setCell_hostPlan (s : State) (st : Store) (n : Nat) (v : Byte) :
    (s.setCell st n v).hostPlan = s.hostPlan := rfl
@[simp] theorem State.setCell_ie (s : State) (st : Store) (n : Nat) (v : Byte) : (s.setCell st n v).mem.ie = s.mem.ie := by
  cases st <;> rfl

@[simp] theorem State.setIo_cpu (s : State) (n : Nat) (v : Byte) : (s.setIo n v).cpu = s.cpu := rfl
@[simp] theorem State.setIo_cfg (s : State) (n : Nat) (v : Byte) : (s.setIo n v).cfg = s.cfg := rfl
@[simp] theorem State.setIo_cart (s : State) (n : Nat) (v : Byte) : (s.setIo n v).cart = s.cart := rfl
@[simp] theorem State.setIo_mbc (s : State) (n : Nat) (v : Byte) : (s.setIo n v).mbc = s.mbc := rfl
@[simp] theorem State.setIo_timer (s : State) (n : Nat) (v : Byte) : (s.setIo n v).timer = s.timer := rfl
@[simp] theorem State.setIo_video (s : State) (n : Nat) (v : Byte) : (s.setIo n v).video = s.video := rfl
@[simp] theorem State.setIo_audio (s : State) (n : Nat) (v : Byte) : (s.setIo n v).audio = s.audio := rfl
@[simp] theorem State.setIo_buttons (s : State) (n : Nat) (v : Byte) : (s.setIo n v).buttons = s.buttons := rfl
@[simp] theorem State.setIo_draws (s : State) (n : Nat) (v : Byte) : (s.setIo n v).draws = s.draws := rfl
@[simp] theorem State.setIo_boots (s : State) (n : Nat) (v : Byte) : (s.setIo n v).boots = s.boots := rfl
@[simp] theorem State.setIo_hostPlan (s : State) (n : Nat) (v : Byte) : (s.setIo n v).hostPlan = s.hostPlan := rfl
@[simp] theorem State.setIo_ie (s : State) (n : Nat) (v : Byte) : (s.setIo n v).mem.ie = s.mem.ie := rfl
@[simp] theorem State.setIo_rom (s : State) (n : Nat) (v : Byte) : (s.setIo n v).mem.rom = s.mem.rom := rfl

/-! ### The cells of the stores -/

@[simp] theorem Stores.get_put_same (m : Stores) (st : Store) (x : Memory) : (m.put st x).get st = x := by
  cases st <;> rfl
theorem Stores.get_put_other (m : Stores) {st st' : Store} (x : Memory) (h : st' ≠ st) :
    (m.put st x).get st' = m.get st' := by
  cases st <;> cases st' <;> first | rfl | exact absurd rfl h
@[simp] theorem Stores.put_ie (m : Stores) (st : Store) (x : Memory) : (m.put st x).ie = m.ie := by cases st <;> rfl

/-! ### The bytes of the state do not depend on the CPU -/

@[simp] theorem State.cell_onCpu (s : State) (f : Cpu → Cpu) (st : Store) (n : Nat) :
    (s.onCpu f).cell st n = s.cell st n := rfl
@[simp] theorem State.io_onCpu (s : State) (f : Cpu → Cpu) (n : Nat) : (s.onCpu f).io n = s.io n := rfl
@[simp] theorem State.backed_onCpu (s : State) (f : Cpu → Cpu) (a : Word) : (s.onCpu f).backed a = s.backed a := rfl
@[simp] theorem State.busValue_onCpu (s : State) (f : Cpu → Cpu) (a : Word) :
    (s.onCpu f).busValue a = s.busValue a := rfl
@[simp] theorem State.pending_onCpu (s : State) (f : Cpu → Cpu) : (s.onCpu f).pending = s.pending := rfl
@[simp] theorem State.effectiveBank_onCpu (s : State) (f : Cpu → Cpu) :
    (s.onCpu f).effectiveBank = s.effectiveBank := rfl
@[simp] theorem State.eramIndex_onCpu (s : State) (f : Cpu → Cpu) (a : Word) :
    (s.onCpu f).eramIndex a = s.eramIndex a := rfl
theorem State.afterRead_onCpu (s : State) (f : Cpu → Cpu) (a : Word) :
    (s.onCpu f).afterRead a = (s.afterRead a).onCpu f := by
  unfold State.afterRead; simp only [State.onCpu_cfg]; split <;> rfl
theorem State.setCell_onCpu (s : State) (f : Cpu → Cpu) (st : Store) (n : Nat) (v : Byte) :
    (s.onCpu f).setCell st n v = (s.setCell st n v).onCpu f := rfl
theorem State.setIo_onCpu (s : State) (f : Cpu → Cpu) (n : Nat) (v : Byte) :
    (s.onCpu f).setIo n v = (s.setIo n v).onCpu f := rfl

/-! ### A read leaves everything but the draw counter -/

theorem State.afterRead_eq (s : State) (a : Word) : s.afterRead a = { s with draws := (s.afterRead a).draws } := by
  unfold State.afterRead; split <;> rfl
@[simp] theorem State.afterRead_cpu (s : State) (a : Word) : (s.afterRead a).cpu = s.cpu := by
  rw [State.afterRead_eq]
@[simp] theorem State.afterRead_cfg (s : State) (a : Word) : (s.afterRead a).cfg = s.cfg := by
  rw [State.afterRead_eq]
@[simp] theorem State.afterRead_mem (s : State) (a : Word) : (s.afterRead a).mem = s.mem := by
  rw [State.afterRead_eq]
@[simp] theorem State.afterRead_cart (s : State) (a : Word) : (s.afterRead a).cart = s.cart := by
  rw [State.afterRead_eq]
@[simp] theorem State.afterRead_mbc (s : State) (a : Word) : (s.afterRead a).mbc = s.mbc := by
  rw [State.afterRead_eq]
@[simp] theorem State.afterRead_timer (s : State) (a : Word) : (s.afterRead a).timer = s.timer := by
  rw [State.afterRead_eq]
@[simp] theorem State.afterRead_video (s : State) (a : Word) : (s.afterRead a).video = s.video := by
  rw [State.afterRead_eq]
@[simp] theorem State.afterRead_audio (s : State) (a : Word) : (s.afterRead a).audio = s.audio := by
  rw [State.afterRead_eq]
@[simp] theorem State.afterRead_buttons (s : State) (a : Word) : (s.afterRead a).buttons = s.buttons := by
  rw [State.afterRead_eq]
@[simp] theorem State.afterRead_boots (s : State) (a : Word) : (s.afterRead a).boots = s.boots := by
  rw [State.afterRead_eq]
@[simp] theorem State.afterRead_hostPlan (s : State) (a : Word) : (s.afterRead a).hostPlan = s.hostPlan := by
  rw [State.afterRead_eq]
@[simp] theorem State.backed_afterRead (s : State) (a b : Word) : (s.afterRead a).backed b = s.backed b := by
  unfold State.backed; rw [State.afterRead_cart]
@[simp] theorem State.cell_afterRead (s : State) (a : Word) (st : Store) (n : Nat) :
    (s.afterRead a).cell st n = s.cell st n := by
  unfold State.cell; rw [State.afterRead_mem, State.afterRead_boots]
@[simp] theorem State.io_afterRead (s : State) (a : Word) (n : Nat) : (s.afterRead a).io n = s.io n :=
  State.cell_afterRead s a .io n

/-! ### CPU updates -/

@[simp] theorem Cpu.setPc_pc (c : Cpu) (v : Word) : (c.setPc v).pc = v := rfl
@[simp] theorem Cpu.setPc_sp (c : Cpu) (v : Word) : (c.setPc v).sp = c.sp := rfl
@[simp] theorem Cpu.setPc_f (c : Cpu) (v : Word) : (c.setPc v).f = c.f := rfl
@[simp] theorem Cpu.setPc_ime (c : Cpu) (v : Word) : (c.setPc v).ime = c.ime := rfl
@[simp] theorem Cpu.setPc_eiPending (c : Cpu) (v : Word) : (c.setPc v).eiPending = c.eiPending := rfl
@[simp] theorem Cpu.setPc_runState (c : Cpu) (v : Word) : (c.setPc v).runState = c.runState := rfl
@[simp] theorem Cpu.setPc_ticks (c : Cpu) (v : Word) : (c.setPc v).ticks = c.ticks := rfl
@[simp] theorem Cpu.setSp_pc (c : Cpu) (v : Word) : (c.setSp v).pc = c.pc := rfl
@[simp] theorem Cpu.setSp_sp (c : Cpu) (v : Word) : (c.setSp v).sp = v := rfl
@[simp] theorem Cpu.setSp_f (c : Cpu) (v : Word) : (c.setSp v).f = c.f := rfl
@[simp] theorem Cpu.setSp_ime (c : Cpu) (v : Word) : (c.setSp v).ime = c.ime := rfl
@[simp] theorem Cpu.setSp_eiPending (c : Cpu) (v : Word) : (c.setSp v).eiPending = c.eiPending := rfl
@[simp] theorem Cpu.setSp_runState (c : Cpu) (v : Word) : (c.setSp v).runState = c.runState := rfl
@[simp] theorem Cpu.setSp_ticks (c : Cpu) (v : Word) : (c.setSp v).ticks = c.ticks := rfl
@[simp] theorem Cpu.addTicks_pc (c : Cpu) (k : Nat) : (c.addTicks k).pc = c.pc := rfl
@[simp] theorem Cpu.addTicks_sp (c : Cpu) (k : Nat) : (c.addTicks k).sp = c.sp := rfl
@[simp] theorem Cpu.addTicks_f (c : Cpu) (k : Nat) : (c.addTicks k).f = c.f := rfl
@[simp] theorem Cpu.addTicks_ime (c : Cpu) (k : Nat) : (c.addTicks k).ime = c.ime := rfl
@[simp] theorem Cpu.addTicks_eiPending (c : Cpu) (k : Nat) : (c.addTicks k).eiPending = c.eiPending := rfl
@[simp] theorem Cpu.addTicks_runState (c : Cpu) (k : Nat) : (c.addTicks k).runState = c.runState := rfl
@[simp] theorem Cpu.addTicks_ticks (c : Cpu) (k : Nat) : (c.addTicks k).ticks = c.ticks + k := rfl
@[simp] theorem Cpu.setFlags_f (c : Cpu) (f : Flags) : (c.setFlags f).f = f.toByte := rfl
@[simp] theorem Cpu.reg_setPc (c : Cpu) (v : Word) (r : R8) : (c.setPc v).reg r = c.reg r := by cases r <;> rfl
@[simp] theorem Cpu.reg_setSp (c : Cpu) (v : Word) (r : R8) : (c.setSp v).reg r = c.reg r := by cases r <;> rfl
@[simp] theorem Cpu.reg_addTicks (c : Cpu) (k : Nat) (r : R8) : (c.addTicks k).reg r = c.reg r := by cases r <;> rfl
@[simp] theorem Cpu.reg_setFlags (c : Cpu) (f : Flags) (r : R8) : (c.setFlags f).reg r = c.reg r := by cases r <;> rfl
@[simp] theorem Cpu.reg_setReg_same (c : Cpu) (r : R8) (v : Byte) : (c.setReg r v).reg r = v := by cases r <;> rfl
theorem Cpu.reg_setReg_other (c : Cpu) {r r' : R8} (v : Byte) (h : r' ≠ r) : (c.setReg r v).reg r' = c.reg r' := by
  cases r <;> cases r' <;> first | rfl | exact absurd rfl h
@[simp] theorem Cpu.setReg_f (c : Cpu) (r : R8) (v : Byte) : (c.setReg r v).f = c.f := by cases r <;> rfl
@[simp] theorem Cpu.setReg_pc (c : Cpu) (r : R8) (v : Byte) : (c.setReg r v).pc = c.pc := by cases r <;> rfl
@[simp] theorem Cpu.setReg_sp (c : Cpu) (r : R8) (v : Byte) : (c.setReg r v).sp = c.sp := by cases r <;> rfl
@[simp] theorem Cpu.setReg_ime (c : Cpu) (r : R8) (v : Byte) : (c.setReg r v).ime = c.ime := by cases r <;> rfl
@[simp] theorem Cpu.setReg_eiPending (c : Cpu) (r : R8) (v : Byte) : (c.setReg r v).eiPending = c.eiPending := by
  cases r <;> rfl
@[simp] theorem Cpu.setReg_runState (c : Cpu) (r : R8) (v : Byte) : (c.setReg r v).runState = c.runState := by
  cases r <;> rfl
@[simp] theorem Cpu.setReg_ticks (c : Cpu) (r : R8) (v : Byte) : (c.setReg r v).ticks = c.ticks := by cases r <;> rfl

end Sys2Proof.Machine
end

