-- ==== Sys2Proof/Laws/Ops.lean ====
section
/-! SUPPORT. What each shared operation over registers and memory does, said once. -/
namespace Sys2Proof.Machine

/-! ### Accesses -/

@[simp] theorem Access.andThen_ok {α β : Type} (v : α) (s : State) (f : α → State → Access β) :
    (Access.ok v s).andThen f = f v s := rfl
@[simp] theorem Access.andThen_stop {α β : Type} (info : Fault) (s : State) (f : α → State → Access β) :
    (Access.stop info s : Access α).andThen f = .stop info s := rfl
@[simp] theorem Access.answer_ok {α : Type} (v : α) (s : State) : (Access.ok v s).answer = .next s := rfl
@[simp] theorem Access.answer_stop {α : Type} (info : Fault) (s : State) :
    (Access.stop info s : Access α).answer = .next (s.raise info) := rfl

/-- What an access leaves, whether it went through or stopped. -/
def Access.state {α : Type} (x : Access α) : State :=
  match x with
  | .ok _ s => s
  | .stop _ s => s

/-- A predicate holds of the state an access leaves. -/
def Access.Holds {α : Type} (Q : State → Prop) (x : Access α) : Prop := Q x.state

theorem Access.holds_andThen {α β : Type} {Q : State → Prop} {x : Access α} {f : α → State → Access β}
    (hx : x.Holds Q) (hf : ∀ v s, x = .ok v s → Q s → (f v s).Holds Q) : (x.andThen f).Holds Q := by
  cases x with
  | ok v s => exact hf v s rfl hx
  | stop info s => exact hx

/-! ### Bytes of the bus -/

/-- A read of a backed address goes through (20 R62). -/
theorem readByte_backed {a : Word} {s : State} (h : s.backed a = true) :
    readByte a s = .ok (s.busValue a) (s.afterRead a) := by
  simp [readByte, h]

/-- A read of an unbacked address stops at once (20 R101). -/
theorem readByte_unbacked {a : Word} {s : State} (h : s.backed a = false) :
    readByte a s = .stop (.invalidBankDispatch a) s := by
  simp [readByte, h]

/-- A read that goes through read a backed address. -/
theorem readByte_ok_iff {a : Word} {s t : State} {v : Byte} :
    readByte a s = .ok v t ↔ s.backed a = true ∧ v = s.busValue a ∧ t = s.afterRead a := by
  constructor
  · intro h
    unfold readByte at h
    split at h
    · next hb => cases h; exact ⟨hb, rfl, rfl⟩
    · cases h
  · rintro ⟨hb, rfl, rfl⟩
    exact readByte_backed hb

/-- A write to an unbacked address stops at once (20 R101). -/
theorem writeByte_unbacked {a : Word} {v : Byte} {s : State} (h : s.backed a = false) :
    writeByte a v s = .stop (.invalidBankDispatch a) s := by
  simp [writeByte, h]

/-- A write to a backed address other than the DMA register goes through (20 R63). -/
theorem writeByte_backed {a : Word} {v : Byte} {s : State} (h : s.backed a = true) (hd : a ≠ 0xFF46) :
    writeByte a v s = .ok () (s.busStore a v) := by
  unfold writeByte; rw [if_pos h, if_neg hd]

/-! ### The frame of an instruction -/

/-- A handler that goes through: `PC` before it, the ticks after it (30 R121). -/
theorem runOp_ok {len ticks : Nat} {handler : State → Access Unit} {s u : State}
    (h : handler (s.onCpu fun c => c.setPc (c.pc + BitVec.ofNat 16 len)) = .ok () u) :
    runOp len ticks handler s = .next (u.onCpu fun c => c.addTicks ticks) := by
  unfold runOp; rw [h]; rfl

/-- A handler that stops: the faulted state, no ticks (60 R300). -/
theorem runOp_stop {len ticks : Nat} {handler : State → Access Unit} {s u : State} {info : Fault}
    (h : handler (s.onCpu fun c => c.setPc (c.pc + BitVec.ofNat 16 len)) = .stop info u) :
    runOp len ticks handler s = .next (u.raise info) := by
  unfold runOp; rw [h]; rfl

/-- An instruction always gives a next state: it went through, or it stopped. -/
theorem runOp_cases (len ticks : Nat) (handler : State → Access Unit) (s : State) :
    (∃ u, handler (s.onCpu fun c => c.setPc (c.pc + BitVec.ofNat 16 len)) = .ok () u ∧
      runOp len ticks handler s = .next (u.onCpu fun c => c.addTicks ticks)) ∨
    (∃ info u, handler (s.onCpu fun c => c.setPc (c.pc + BitVec.ofNat 16 len)) = .stop info u ∧
      runOp len ticks handler s = .next (u.raise info)) := by
  cases h : handler (s.onCpu fun c => c.setPc (c.pc + BitVec.ofNat 16 len)) with
  | ok v u => exact .inl ⟨u, rfl, runOp_ok h⟩
  | stop info u => exact .inr ⟨info, u, rfl, runOp_stop h⟩

/-- A handler that changes the CPU only. -/
theorem runOp_cpuOnly (len ticks : Nat) (f : Cpu → Cpu) (s : State) :
    runOp len ticks (cpuOnly f) s =
      .next (s.onCpu fun c => (f (c.setPc (c.pc + BitVec.ofNat 16 len))).addTicks ticks) := rfl

/-- A predicate holds after an instruction when its handler keeps it, the ticks keep it and a stop keeps it. -/
theorem runOp_holds {Q : State → Prop} {len ticks : Nat} {handler : State → Access Unit} {s t : State}
    (hh : (handler (s.onCpu fun c => c.setPc (c.pc + BitVec.ofNat 16 len))).Holds Q)
    (ht : ∀ u, Q u → Q (u.onCpu fun c => c.addTicks ticks)) (hr : ∀ u info, Q u → Q (u.raise info))
    (h : runOp len ticks handler s = .next t) : Q t := by
  rcases runOp_cases len ticks handler s with ⟨u, hu, hn⟩ | ⟨info, u, hu, hn⟩ <;> rw [hn] at h <;> cases h
  · exact ht u (by simpa [Access.Holds, Access.state, hu] using hh)
  · exact hr u info (by simpa [Access.Holds, Access.state, hu] using hh)

/-! ### The stack -/

/-- A pop whose two bytes are backed (00 R10): the low byte from `SP`, the high byte from `SP + 1`, `SP` two up. -/
theorem pop16_backed {s : State} (h0 : s.backed s.cpu.sp = true) (h1 : s.backed (s.cpu.sp + 1) = true) :
    pop16 s = .ok (wordOf ((s.afterRead s.cpu.sp).busValue (s.cpu.sp + 1)) (s.busValue s.cpu.sp))
      (((s.afterRead s.cpu.sp).afterRead (s.cpu.sp + 1)).onCpu fun c => c.setSp (c.sp + 2)) := by
  have e (x : Word) : x + 1 + 1 = x + 2 := by rw [BitVec.add_assoc]; rfl
  unfold pop16
  rw [readByte_backed h0]
  simp only [Access.andThen_ok, State.onCpu_cpu, State.afterRead_cpu, Cpu.setSp_sp]
  rw [readByte_backed (by simpa using h1)]
  simp only [Access.andThen_ok, State.afterRead_onCpu, State.onCpu_onCpu, Cpu.setSp_sp, e, State.busValue_onCpu]
  rfl

/-- A push is two writes, high byte first (00 R10). -/
theorem push16_eq (v : Word) (s : State) :
    push16 v s = (writeByte (s.cpu.sp - 1) (hiByte v) (s.onCpu fun c => c.setSp (c.sp - 1))).andThen fun _ s2 =>
      writeByte (s2.cpu.sp - 1) (loByte v) (s2.onCpu fun c => c.setSp (c.sp - 1)) := rfl

/-! ### Interrupts -/

/-- No dispatch while `IME` is clear (60 R312). -/
theorem testInterrupts_off {s : State} (h : s.cpu.ime = false) : testInterrupts s = .ok () s := by
  simp [testInterrupts, h]

/-- No dispatch while nothing enabled is pending (60 R312). -/
theorem testInterrupts_idle {s : State} (h : firstLine s.pending = none) : testInterrupts s = .ok () s := by
  unfold testInterrupts; split <;> simp [h]

/-- The dispatch of the first pending line (60 R312, R313). -/
theorem testInterrupts_dispatch {s : State} {i : IrqLine} (h : s.cpu.ime = true) (hi : firstLine s.pending = some i) :
    testInterrupts s = dispatch i s := by
  simp [testInterrupts, h, hi]

end Sys2Proof.Machine
end

