-- ==== Sys2Proof/Laws/Bus.lean ====
section
/-! SUPPORT. What a write on the bus leaves alone, and the DMA copy. -/
namespace Sys2Proof.Machine

/-! ### The audio unit leaves everything but its own fields and the I/O page -/

/-- A change of the audio unit's fields and of the I/O page only. -/
def State.AudioChange (s t : State) : Prop := ∃ a io, t = { s with audio := a, mem := { s.mem with io := io } }

theorem State.AudioChange.refl (s : State) : s.AudioChange s := ⟨s.audio, s.mem.io, rfl⟩
theorem State.AudioChange.trans {s t u : State} (h1 : s.AudioChange t) (h2 : t.AudioChange u) : s.AudioChange u := by
  obtain ⟨a, io, rfl⟩ := h1; obtain ⟨a', io', rfl⟩ := h2; exact ⟨a', io', rfl⟩
theorem State.audioChange_setIo (s : State) (n : Nat) (v : Byte) : s.AudioChange (s.setIo n v) :=
  ⟨s.audio, Memory.write .io s.mem.io n v, rfl⟩
theorem State.audioChange_setChan (s : State) (c : Chan) (ch : Channel) : s.AudioChange (s.setChan c ch) := by
  cases c
  · exact ⟨{ s.audio with ch1 := ch }, s.mem.io, rfl⟩
  · exact ⟨{ s.audio with ch2 := ch }, s.mem.io, rfl⟩
theorem State.audioChange_audio (s : State) (a : Audio) : s.AudioChange { s with audio := a } := ⟨a, s.mem.io, rfl⟩
theorem State.audioChange_mirror (s : State) : s.AudioChange s.mirrorEnables := s.audioChange_setIo _ _
theorem State.audioChange_disable (s : State) (c : Chan) : s.AudioChange (s.disable c) :=
  (s.audioChange_setChan c _).trans (State.audioChange_mirror _)
theorem State.audioChange_loadLength (s : State) (c : Chan) (v : Byte) : s.AudioChange (s.loadLength c v) :=
  s.audioChange_setChan c _
theorem State.audioChange_sweepCheck (s : State) : s.AudioChange s.sweepCheck := by
  unfold State.sweepCheck; split
  · exact s.audioChange_disable _
  · exact .refl s
theorem State.audioChange_triggerSweep (s : State) : s.AudioChange s.triggerSweep := by
  unfold State.triggerSweep; dsimp only; split
  · exact (s.audioChange_audio _).trans (State.audioChange_sweepCheck _)
  · exact s.audioChange_audio _
theorem State.audioChange_trigger (s : State) (c : Chan) : s.AudioChange (s.trigger c) := by
  cases c
  · exact ((s.audioChange_setChan .one _).trans (State.audioChange_triggerSweep _)).trans (State.audioChange_mirror _)
  · exact (s.audioChange_setChan .two _).trans (State.audioChange_mirror _)
theorem State.audioChange_lengthClock (s : State) (c : Chan) : s.AudioChange (s.lengthClock c) := by
  unfold State.lengthClock; dsimp only; split
  · split
    · exact (s.audioChange_setChan c _).trans (State.audioChange_disable _ c)
    · exact s.audioChange_setChan c _
  · exact .refl s
theorem State.audioChange_envelopeClock (s : State) (c : Chan) : s.AudioChange (s.envelopeClock c) := by
  unfold State.envelopeClock; dsimp only; split
  · exact .refl s
  · split <;> exact s.audioChange_setChan c _
theorem State.audioChange_storeSweep (s : State) (new : Nat) : s.AudioChange (s.storeSweep new) :=
  ((s.audioChange_audio _).trans (State.audioChange_setIo _ _ _)).trans (State.audioChange_setIo _ _ _)
theorem State.audioChange_sweepExpire (s : State) : s.AudioChange s.sweepExpire := by
  unfold State.sweepExpire; dsimp only; split
  · split
    · exact (((s.audioChange_audio _).trans (State.audioChange_sweepCheck _)).trans
        (State.audioChange_storeSweep _ _)).trans (State.audioChange_sweepCheck _)
    · exact (s.audioChange_audio _).trans (State.audioChange_sweepCheck _)
  · exact s.audioChange_audio _
theorem State.audioChange_sweepClock (s : State) : s.AudioChange s.sweepClock := by
  unfold State.sweepClock; dsimp only; split
  · exact (s.audioChange_audio _).trans (State.audioChange_sweepExpire _)
  · exact s.audioChange_audio _
theorem State.audioChange_waveClock (s : State) (c : Chan) : s.AudioChange (s.waveClock c) := by
  unfold State.waveClock; dsimp only; split <;> exact s.audioChange_setChan c _
theorem State.audioChange_frameStep (s : State) (fs : Fin 8) : s.AudioChange (s.frameStep fs) := by
  unfold State.frameStep; split
  · exact (s.audioChange_lengthClock _).trans (State.audioChange_lengthClock _ _)
  · exact (s.audioChange_lengthClock _).trans (State.audioChange_lengthClock _ _)
  · exact ((s.audioChange_lengthClock _).trans (State.audioChange_lengthClock _ _)).trans
      (State.audioChange_sweepClock _)
  · exact ((s.audioChange_lengthClock _).trans (State.audioChange_lengthClock _ _)).trans
      (State.audioChange_sweepClock _)
  · exact (s.audioChange_envelopeClock _).trans (State.audioChange_envelopeClock _ _)
  all_goals exact .refl s
theorem State.audioChange_frameClock (s : State) : s.AudioChange s.frameClock := by
  unfold State.frameClock; dsimp only; split
  · exact ((s.audioChange_audio _).trans (State.audioChange_frameStep _ _)).trans (State.audioChange_audio _ _)
  · exact s.audioChange_audio _
theorem State.audioChange_sampleClock (s : State) : s.AudioChange s.sampleClock := by
  unfold State.sampleClock; split
  · exact .refl s
  · split <;> exact s.audioChange_audio _
/-- An audio tick changes the audio unit's fields and the I/O page only (60 R360). -/
theorem State.audioChange_audioStep (s : State) : s.AudioChange s.audioStep :=
  ((((s.audioChange_audio _).trans (State.audioChange_waveClock _ _)).trans (State.audioChange_waveClock _ _)).trans
    (State.audioChange_frameClock _)).trans (State.audioChange_sampleClock _)

/-! ### A write on the bus -/

/-- What a write on the bus may change: the stores but the ROM image and the framebuffer, the bank controller's
registers, the divider's accumulator and the audio unit (20 R63 to R79). -/
structure State.BusChange (s t : State) : Prop where
  cfg : t.cfg = s.cfg
  cpu : t.cpu = s.cpu
  cart : t.cart = s.cart
  video : t.video = s.video
  buttons : t.buttons = s.buttons
  draws : t.draws = s.draws
  boots : t.boots = s.boots
  hostPlan : t.hostPlan = s.hostPlan
  timerTicks : t.timer.localTicks = s.timer.localTicks
  timaAcc : t.timer.timaAcc = s.timer.timaAcc
  audioTicks : t.audio.localTicks = s.audio.localTicks
  rom : t.mem.rom = s.mem.rom
  framebuffer : t.mem.framebuffer = s.mem.framebuffer

theorem State.BusChange.refl (s : State) : s.BusChange s := ⟨rfl, rfl, rfl, rfl, rfl, rfl, rfl, rfl, rfl, rfl, rfl, rfl, rfl⟩
theorem State.BusChange.trans {s t u : State} (h : s.BusChange t) (k : t.BusChange u) : s.BusChange u :=
  ⟨k.cfg.trans h.cfg, k.cpu.trans h.cpu, k.cart.trans h.cart, k.video.trans h.video, k.buttons.trans h.buttons,
    k.draws.trans h.draws, k.boots.trans h.boots, k.hostPlan.trans h.hostPlan, k.timerTicks.trans h.timerTicks,
    k.timaAcc.trans h.timaAcc, k.audioTicks.trans h.audioTicks, k.rom.trans h.rom, k.framebuffer.trans h.framebuffer⟩

theorem State.busChange_setCell (s : State) {st : Store} (n : Nat) (v : Byte) (h : st ≠ .rom ∧ st ≠ .framebuffer) :
    s.BusChange (s.setCell st n v) := by
  cases st <;> first | exact ⟨rfl, rfl, rfl, rfl, rfl, rfl, rfl, rfl, rfl, rfl, rfl, rfl, rfl⟩ | simp at h

theorem State.busChange_setIo (s : State) (n : Nat) (v : Byte) : s.BusChange (s.setIo n v) :=
  s.busChange_setCell n v (by simp)

@[simp] theorem State.setChan_audioTicks (s : State) (c : Chan) (ch : Channel) :
    (s.setChan c ch).audio.localTicks = s.audio.localTicks := by cases c <;> rfl
theorem State.sweepCheck_audioTicks (s : State) : s.sweepCheck.audio.localTicks = s.audio.localTicks := by
  unfold State.sweepCheck State.disable State.mirrorEnables; split <;> simp
theorem State.trigger_audioTicks (s : State) (c : Chan) : (s.trigger c).audio.localTicks = s.audio.localTicks := by
  cases c
  · simp only [State.trigger, State.mirrorEnables, State.setIo_audio, State.triggerSweep]
    split
    · rw [State.sweepCheck_audioTicks]; simp [State.triggerChannel]
    · simp [State.triggerChannel]
  · simp [State.trigger, State.mirrorEnables, State.triggerChannel]

theorem State.AudioChange.busChange {s t : State} (h : s.AudioChange t)
    (ht : t.audio.localTicks = s.audio.localTicks) : s.BusChange t := by
  obtain ⟨a, io, rfl⟩ := h
  exact ⟨rfl, rfl, rfl, rfl, rfl, rfl, rfl, rfl, rfl, rfl, ht, rfl, rfl⟩

theorem State.busChange_writeIo (s : State) (n : Nat) (v : Byte) : s.BusChange (s.writeIo n v) := by
  unfold State.writeIo
  split
  · exact ⟨rfl, rfl, rfl, rfl, rfl, rfl, rfl, rfl, rfl, rfl, rfl, rfl, rfl⟩
  · exact (s.busChange_setIo _ _).trans ((State.audioChange_loadLength _ .one v).busChange (by simp [State.loadLength]))
  · split
    · exact (s.busChange_setIo _ _).trans ((State.audioChange_trigger _ _).busChange (State.trigger_audioTicks _ _))
    · exact s.busChange_setIo _ _
  · exact (s.busChange_setIo _ _).trans ((State.audioChange_loadLength _ .two v).busChange (by simp [State.loadLength]))
  · split
    · exact (s.busChange_setIo _ _).trans ((State.audioChange_trigger _ _).busChange (State.trigger_audioTicks _ _))
    · exact s.busChange_setIo _ _
  · exact s.busChange_setIo _ _
  · exact s.busChange_setIo _ _
  · exact .refl s
  · exact s.busChange_setIo _ _

/-- A write on the bus changes nothing but what `State.BusChange` allows (20 R63). -/
theorem State.busChange_busStore (s : State) (a : Word) (v : Byte) : s.BusChange (s.busStore a v) := by
  unfold State.busStore State.writeRomSpace State.writeEram
  dsimp only
  split
  · split <;> exact ⟨rfl, rfl, rfl, rfl, rfl, rfl, rfl, rfl, rfl, rfl, rfl, rfl, rfl⟩
  · split <;> exact ⟨rfl, rfl, rfl, rfl, rfl, rfl, rfl, rfl, rfl, rfl, rfl, rfl, rfl⟩
  · exact s.busChange_setCell _ _ (by simp)
  · split <;> exact ⟨rfl, rfl, rfl, rfl, rfl, rfl, rfl, rfl, rfl, rfl, rfl, rfl, rfl⟩
  · exact s.busChange_setCell _ _ (by simp)
  · exact s.busChange_setCell _ _ (by simp)
  · exact s.busChange_setCell _ _ (by simp)
  · exact .refl s
  · exact s.busChange_writeIo _ _
  · exact s.busChange_setCell _ _ (by simp)
  · exact ⟨rfl, rfl, rfl, rfl, rfl, rfl, rfl, rfl, rfl, rfl, rfl, rfl, rfl⟩

/-! ### The DMA copy -/

/-- A copy whose sources are backed goes through (20 R80). -/
theorem dmaCopy_backed {page : Byte} {count i : Nat} {s : State}
    (h : ∀ k, i ≤ k → k < i + count → s.backed (wordOf page 0 + BitVec.ofNat 16 k) = true) :
    ∃ t, dmaCopy page count i s = .ok () t := by
  induction count generalizing i s with
  | zero => exact ⟨s, rfl⟩
  | succ count ih =>
    unfold dmaCopy
    rw [readByte_backed (h i (by omega) (by omega))]
    refine ih fun k hk hk' => ?_
    have := h k (by omega) (by omega)
    simpa [State.backed] using this

/-- A predicate that reads and stores into the sprite table keep is kept by the copy, stopped or not (20 R80). -/
theorem dmaCopy_holds {Q : State → Prop} {page : Byte} {count i bound : Nat} {s : State} (hb : i + count ≤ bound)
    (hread : ∀ s a, Q s → Q (s.afterRead a)) (hstore : ∀ s k v, k < bound → Q s → Q (s.setCell .oam k v)) (h : Q s) :
    (dmaCopy page count i s).Holds Q := by
  induction count generalizing i s with
  | zero => exact h
  | succ count ih =>
    unfold dmaCopy
    cases hr : readByte (wordOf page 0 + BitVec.ofNat 16 i) s with
    | ok v s1 =>
      obtain ⟨-, -, rfl⟩ := readByte_ok_iff.mp hr
      exact ih (by omega) (hstore _ _ _ (by omega) (hread _ _ h))
    | stop info s1 =>
      unfold readByte at hr; split at hr <;> cases hr
      exact h

end Sys2Proof.Machine
end

