-- ==== Sys2Proof/Laws/Cycle.lean ====
section
/-! SUPPORT. What precedes and follows an instruction in its machine step, and what `EI` does to the CPU. -/
namespace Sys2Proof.Machine

/-- The start of a step leaves no enable pending (60 R320). -/
@[simp] theorem Cpu.consumeEi_eiPending (c : Cpu) : c.consumeEi.eiPending = false := by
  unfold Cpu.consumeEi; split <;> simp_all

/-- At the start of a step `IME` is set when it was, or when an enable is due (60 R320). -/
@[simp] theorem Cpu.consumeEi_ime (c : Cpu) : c.consumeEi.ime = (c.ime || c.eiPending) := by
  unfold Cpu.consumeEi; split <;> simp_all

/-- `EI` with `IME` set changes nothing (46 R294). -/
theorem Cpu.enableInterrupts_set {c : Cpu} (delay : Bool) (h : c.ime = true) : c.enableInterrupts delay = c := by
  simp [Cpu.enableInterrupts, h]

/-- `EI` with `IME` clear enables one instruction late, or at once (46 R294). -/
theorem Cpu.enableInterrupts_clear {c : Cpu} (delay : Bool) (h : c.ime = false) :
    c.enableInterrupts delay = if delay then { c with eiPending := true } else { c with ime := true } := by
  simp [Cpu.enableInterrupts, h]

/-- A fatal stop ends the step (60 R300). -/
theorem afterInstruction_faulted {s : State} (h : s.isFaulted = true) : afterInstruction s = .next s := by
  unfold State.isFaulted at h
  unfold afterInstruction
  split at h <;> simp_all

/-- The step of `STOP` tests no interrupt (46 R292, 60 R322). -/
theorem afterInstruction_stopped {s : State} (h : s.cpu.runState = .stopped) :
    afterInstruction s = .next s.syncDevices := by
  simp [afterInstruction, h]

/-- Any other instruction is followed by the test and then the synchronization (60 R320). -/
theorem afterInstruction_goesOn {s : State} (hf : s.isFaulted = false) (hs : s.cpu.runState ≠ .stopped) :
    afterInstruction s = testAndSync s := by
  unfold State.isFaulted at hf
  unfold afterInstruction
  split at hf <;> simp_all

/-- A test that goes through is followed by the synchronization (60 R320). -/
theorem testAndSync_ok {s t : State} (h : testInterrupts s = .ok () t) : testAndSync s = .next t.syncDevices := by
  simp [testAndSync, h]

/-- A stop in the dispatch's push ends the step there (60 R300, R305). -/
theorem testAndSync_stop {s t : State} {info : Fault} (h : testInterrupts s = .stop info t) :
    testAndSync s = .next (t.raise info) := by
  simp [testAndSync, h]

end Sys2Proof.Machine
end

