-- ==== Sys2Proof/Laws/Devices.lean ====
section
/-! SUPPORT. What the devices may change, and where their synchronization leaves their tick counts (60 R323). -/
namespace Sys2Proof.Machine

/-- What a device may change: its own fields, the I/O page and the framebuffer. -/
structure State.DeviceChange (s t : State) : Prop where
  cfg : t.cfg = s.cfg
  cpu : t.cpu = s.cpu
  cart : t.cart = s.cart
  mbc : t.mbc = s.mbc
  buttons : t.buttons = s.buttons
  draws : t.draws = s.draws
  boots : t.boots = s.boots
  hostPlan : t.hostPlan = s.hostPlan
  mem : t.mem = { s.mem with io := t.mem.io, framebuffer := t.mem.framebuffer }

theorem State.DeviceChange.refl (s : State) : s.DeviceChange s := ⟨rfl, rfl, rfl, rfl, rfl, rfl, rfl, rfl, rfl⟩
theorem State.DeviceChange.trans {s t u : State} (h : s.DeviceChange t) (k : t.DeviceChange u) : s.DeviceChange u :=
  ⟨k.cfg.trans h.cfg, k.cpu.trans h.cpu, k.cart.trans h.cart, k.mbc.trans h.mbc, k.buttons.trans h.buttons,
    k.draws.trans h.draws, k.boots.trans h.boots, k.hostPlan.trans h.hostPlan, by rw [k.mem, h.mem]⟩

/-- A device's change that also leaves the other devices' fields, as a relation between two states. -/
structure State.IoChange (s t : State) : Prop extends State.DeviceChange s t where
  timer : t.timer = s.timer
  video : t.video = s.video
  audio : t.audio = s.audio

theorem State.IoChange.refl (s : State) : s.IoChange s := ⟨.refl s, rfl, rfl, rfl⟩
theorem State.IoChange.trans {s t u : State} (h : s.IoChange t) (k : t.IoChange u) : s.IoChange u :=
  ⟨h.toDeviceChange.trans k.toDeviceChange, k.timer.trans h.timer, k.video.trans h.video, k.audio.trans h.audio⟩
theorem State.ioChange_setIo (s : State) (n : Nat) (v : Byte) : s.IoChange (s.setIo n v) :=
  ⟨⟨rfl, rfl, rfl, rfl, rfl, rfl, rfl, rfl, rfl⟩, rfl, rfl, rfl⟩
theorem State.ioChange_request (s : State) (i : IrqLine) : s.IoChange (s.request i) := s.ioChange_setIo _ _
theorem State.ioChange_requestIf (s : State) (b : Bool) (i : IrqLine) : s.IoChange (s.requestIf b i) := by
  unfold State.requestIf; split
  · exact s.ioChange_request i
  · exact .refl s
theorem State.ioChange_setFrame (s : State) (n : Nat) (v : Byte) : s.IoChange (s.setCell .framebuffer n v) :=
  ⟨⟨rfl, rfl, rfl, rfl, rfl, rfl, rfl, rfl, rfl⟩, rfl, rfl, rfl⟩

theorem State.AudioChange.deviceChange {s t : State} (h : s.AudioChange t) : s.DeviceChange t := by
  obtain ⟨a, io, rfl⟩ := h; exact ⟨rfl, rfl, rfl, rfl, rfl, rfl, rfl, rfl, rfl⟩

/-! ### The timer -/

/-- A timer tick counts one tick and leaves the other devices alone (60 R330). -/
structure State.TimerChange (s t : State) : Prop extends State.DeviceChange s t where
  video : t.video = s.video
  audio : t.audio = s.audio

theorem State.TimerChange.refl (s : State) : s.TimerChange s := ⟨.refl s, rfl, rfl⟩
theorem State.TimerChange.trans {s t u : State} (h : s.TimerChange t) (k : t.TimerChange u) : s.TimerChange u :=
  ⟨h.toDeviceChange.trans k.toDeviceChange, k.video.trans h.video, k.audio.trans h.audio⟩
theorem State.IoChange.timerChange {s t : State} (h : s.IoChange t) : s.TimerChange t :=
  ⟨h.toDeviceChange, h.video, h.audio⟩
theorem State.timerChange_timer (s : State) (x : Timer) : s.TimerChange { s with timer := x } :=
  ⟨⟨rfl, rfl, rfl, rfl, rfl, rfl, rfl, rfl, rfl⟩, rfl, rfl⟩
theorem State.ioChange_timaIncrement (s : State) : s.IoChange s.timaIncrement := by
  unfold State.timaIncrement; split
  · exact (s.ioChange_setIo _ _).trans (State.ioChange_request _ _)
  · exact s.ioChange_setIo _ _
theorem State.timerChange_counterTick (s : State) : s.TimerChange s.counterTick := by
  unfold State.counterTick; split
  · split
    · exact (s.timerChange_timer _).trans (State.ioChange_timaIncrement _).timerChange
    · exact s.timerChange_timer _
  · exact .refl s
theorem State.timerChange_dividerTick (s : State) : s.TimerChange s.dividerTick := by
  unfold State.dividerTick; dsimp only; split
  · exact (s.ioChange_setIo _ _).timerChange.trans (State.timerChange_timer _ _)
  · exact s.timerChange_timer _
theorem State.timerChange_timerStep (s : State) : s.TimerChange s.timerStep :=
  ((s.timerChange_timer _).trans (State.timerChange_dividerTick _)).trans (State.timerChange_counterTick _)
theorem State.counterTick_localTicks (s : State) : s.counterTick.timer.localTicks = s.timer.localTicks := by
  unfold State.counterTick; split
  · split
    · rw [(State.ioChange_timaIncrement _).timer]
    · rfl
  · rfl
theorem State.dividerTick_localTicks (s : State) : s.dividerTick.timer.localTicks = s.timer.localTicks := by
  unfold State.dividerTick; dsimp only; split <;> rfl
@[simp] theorem State.timerStep_localTicks (s : State) : s.timerStep.timer.localTicks = s.timer.localTicks + 1 := by
  unfold State.timerStep; dsimp only; rw [State.counterTick_localTicks, State.dividerTick_localTicks]

/-! ### The video unit -/

/-- A video tick leaves the other devices alone (60 R340). -/
structure State.VideoChange (s t : State) : Prop extends State.DeviceChange s t where
  timer : t.timer = s.timer
  audio : t.audio = s.audio
  ticks : t.video.localTicks = s.video.localTicks

theorem State.VideoChange.refl (s : State) : s.VideoChange s := ⟨.refl s, rfl, rfl, rfl⟩
theorem State.VideoChange.trans {s t u : State} (h : s.VideoChange t) (k : t.VideoChange u) : s.VideoChange u :=
  ⟨h.toDeviceChange.trans k.toDeviceChange, k.timer.trans h.timer, k.audio.trans h.audio, k.ticks.trans h.ticks⟩
theorem State.IoChange.videoChange {s t : State} (h : s.IoChange t) : s.VideoChange t :=
  ⟨h.toDeviceChange, h.timer, h.audio, by rw [h.video]⟩
theorem State.videoChange_video (s : State) (x : Video) (h : x.localTicks = s.video.localTicks) :
    s.VideoChange { s with video := x } :=
  ⟨⟨rfl, rfl, rfl, rfl, rfl, rfl, rfl, rfl, rfl⟩, rfl, rfl, h⟩
theorem State.videoChange_setMode (s : State) (m : VideoMode) : s.VideoChange (s.setMode m) :=
  (s.videoChange_video { s.video with mode := m } rfl).trans (State.ioChange_setIo _ _ _).videoChange
theorem State.ioChange_setLy (s : State) (v : Byte) : s.IoChange (s.setLy v) := by
  unfold State.setLy; dsimp only; split
  · exact ((s.ioChange_setIo _ _).trans (State.ioChange_setIo _ _ _)).trans (State.ioChange_requestIf _ _ _)
  · exact (s.ioChange_setIo _ _).trans (State.ioChange_setIo _ _ _)
theorem State.videoChange_clear (s : State) : s.VideoChange s.clearModeTicks := s.videoChange_video _ rfl
theorem State.videoChange_enterMode (s : State) (m : VideoMode) (b : Nat) : s.VideoChange (s.enterMode m b) :=
  (s.videoChange_setMode m).trans (State.ioChange_requestIf _ _ _).videoChange
theorem State.videoChange_notify (s : State) : s.VideoChange s.notifyVblank := s.videoChange_video _ rfl
theorem State.videoChange_enterVblank (s : State) : s.VideoChange s.enterVblank :=
  (((s.videoChange_setMode .vblank).trans (State.ioChange_request _ .vblank).videoChange).trans
    (State.videoChange_notify _)).trans (State.ioChange_requestIf _ _ _).videoChange
theorem State.ioChange_storePixels (s : State) (sprites : List Sprite) (ly n : Nat) :
    s.IoChange (s.storePixels sprites ly n) := by
  induction n with
  | zero => exact .refl s
  | succ n ih => exact ih.trans (State.ioChange_setFrame _ _ _)
theorem State.ioChange_renderLine (s : State) (ly : Nat) : s.IoChange (s.renderLine ly) := by
  unfold State.renderLine; split
  · exact s.ioChange_storePixels _ _ _
  · exact .refl s
theorem State.videoChange_oamSearchTick (s : State) : s.VideoChange s.oamSearchTick := by
  unfold State.oamSearchTick; dsimp only; split
  · exact (s.videoChange_clear.trans (State.videoChange_setMode _ _)).trans (State.ioChange_renderLine _ _).videoChange
  · exact .refl s
theorem State.videoChange_transferTick (s : State) : s.VideoChange s.transferTick := by
  unfold State.transferTick; split
  · exact s.videoChange_clear.trans (State.videoChange_enterMode _ _ _)
  · exact .refl s
theorem State.videoChange_hblankTick (s : State) : s.VideoChange s.hblankTick := by
  unfold State.hblankTick; dsimp only; split
  · split
    · exact (s.videoChange_clear.trans (State.ioChange_setLy _ _).videoChange).trans (State.videoChange_enterVblank _)
    · exact (s.videoChange_clear.trans (State.ioChange_setLy _ _).videoChange).trans (State.videoChange_enterMode _ _ _)
  · exact .refl s
theorem State.videoChange_vblankTick (s : State) : s.VideoChange s.vblankTick := by
  unfold State.vblankTick; split
  · exact (s.videoChange_clear.trans (State.ioChange_setLy _ _).videoChange).trans (State.videoChange_enterMode _ _ _)
  · split
    · exact (s.ioChange_setLy _).videoChange
    · exact .refl s
/-- What a video tick may change: the other devices stay, its own count moves by one (60 R340). -/
theorem State.videoStep_change (s : State) : s.DeviceChange s.videoStep ∧ s.videoStep.timer = s.timer ∧
    s.videoStep.audio = s.audio ∧ s.videoStep.video.localTicks = s.video.localTicks + 1 := by
  let s1 : State := { s with video := { s.video with
    localTicks := s.video.localTicks + 1, modeTicks := s.video.modeTicks + 1 } }
  have h1 : s.DeviceChange s1 := ⟨rfl, rfl, rfl, rfl, rfl, rfl, rfl, rfl, rfl⟩
  have key : s1.VideoChange s.videoStep := by
    show s1.VideoChange (match s1.video.mode with
      | .oamSearch => s1.oamSearchTick
      | .transfer => s1.transferTick
      | .hblank => s1.hblankTick
      | .vblank => s1.vblankTick)
    split
    · exact s1.videoChange_oamSearchTick
    · exact s1.videoChange_transferTick
    · exact s1.videoChange_hblankTick
    · exact s1.videoChange_vblankTick
  exact ⟨h1.trans key.toDeviceChange, key.timer, key.audio, key.ticks⟩

/-! ### The audio unit -/

theorem State.AudioChange.others {s t : State} (h : s.AudioChange t) : t.timer = s.timer ∧ t.video = s.video := by
  obtain ⟨a, io, rfl⟩ := h; exact ⟨rfl, rfl⟩

theorem State.mirrorEnables_audio (s : State) : s.mirrorEnables.audio = s.audio := rfl
theorem State.disable_audioTicks (s : State) (c : Chan) : (s.disable c).audio.localTicks = s.audio.localTicks := by
  simp [State.disable, State.mirrorEnables]
theorem State.lengthClock_audioTicks (s : State) (c : Chan) :
    (s.lengthClock c).audio.localTicks = s.audio.localTicks := by
  unfold State.lengthClock; dsimp only; split
  · split <;> simp [State.disable_audioTicks]
  · rfl
theorem State.envelopeClock_audioTicks (s : State) (c : Chan) :
    (s.envelopeClock c).audio.localTicks = s.audio.localTicks := by
  unfold State.envelopeClock; dsimp only; split
  · rfl
  · split <;> simp
theorem State.storeSweep_audioTicks (s : State) (n : Nat) : (s.storeSweep n).audio.localTicks = s.audio.localTicks := rfl
theorem State.sweepExpire_audioTicks (s : State) : s.sweepExpire.audio.localTicks = s.audio.localTicks := by
  unfold State.sweepExpire; dsimp only; split
  · split
    · rw [State.sweepCheck_audioTicks, State.storeSweep_audioTicks, State.sweepCheck_audioTicks]
    · rw [State.sweepCheck_audioTicks]
  · rfl
theorem State.sweepClock_audioTicks (s : State) : s.sweepClock.audio.localTicks = s.audio.localTicks := by
  unfold State.sweepClock; dsimp only; split
  · rw [State.sweepExpire_audioTicks]
  · rfl
theorem State.frameStep_audioTicks (s : State) (fs : Fin 8) : (s.frameStep fs).audio.localTicks = s.audio.localTicks := by
  unfold State.frameStep
  split <;> simp [State.lengthClock_audioTicks, State.envelopeClock_audioTicks, State.sweepClock_audioTicks]
theorem State.frameClock_audioTicks (s : State) : s.frameClock.audio.localTicks = s.audio.localTicks := by
  unfold State.frameClock; dsimp only; split
  · simp [State.frameStep_audioTicks]
  · rfl
theorem State.waveClock_audioTicks (s : State) (c : Chan) : (s.waveClock c).audio.localTicks = s.audio.localTicks := by
  unfold State.waveClock; dsimp only; split <;> simp
theorem State.sampleClock_audioTicks (s : State) : s.sampleClock.audio.localTicks = s.audio.localTicks := by
  unfold State.sampleClock; split
  · rfl
  · split <;> rfl
@[simp] theorem State.audioStep_localTicks (s : State) : s.audioStep.audio.localTicks = s.audio.localTicks + 1 := by
  unfold State.audioStep; dsimp only
  rw [State.sampleClock_audioTicks, State.frameClock_audioTicks, State.waveClock_audioTicks, State.waveClock_audioTicks]

/-! ### The synchronization -/

/-- What a step keeps, its repetition keeps. -/
theorem iterate_holds {f : State → State} {P : State → Prop} (hf : ∀ s, P s → P (f s)) (n : Nat) {s : State} (h : P s) :
    P (iterate f n s) := by
  induction n generalizing s with
  | zero => exact h
  | succ n ih => exact ih (hf s h)

theorem iterate_add (f : State → State) (m n : Nat) (s : State) : iterate f (m + n) s = iterate f n (iterate f m s) := by
  induction m generalizing s with
  | zero => simp [iterate]
  | succ m ih => rw [Nat.succ_add]; exact ih (f s)

/-- What the synchronization of one device may change, and where it leaves its tick count. -/
theorem State.syncTimer_change (s : State) (target : Nat) : s.TimerChange (s.syncTimer target) ∧
    (s.timer.localTicks ≤ target → (s.syncTimer target).timer.localTicks = target) := by
  have key : ∀ (n : Nat) (s : State), s.TimerChange (iterate State.timerStep n s) ∧
      (iterate State.timerStep n s).timer.localTicks = s.timer.localTicks + n := by
    intro n
    induction n with
    | zero => exact fun s => ⟨.refl s, rfl⟩
    | succ n ih =>
      intro s
      obtain ⟨h1, h2⟩ := ih s.timerStep
      exact ⟨s.timerChange_timerStep.trans h1, by
        show (iterate _ n s.timerStep).timer.localTicks = _
        rw [h2, State.timerStep_localTicks]; omega⟩
  exact ⟨(key _ s).1, fun h => by unfold State.syncTimer; rw [(key _ s).2]; omega⟩

theorem State.syncVideo_change (s : State) (target : Nat) : (s.DeviceChange (s.syncVideo target) ∧
    (s.syncVideo target).timer = s.timer ∧ (s.syncVideo target).audio = s.audio) ∧
    (s.video.localTicks ≤ target → (s.syncVideo target).video.localTicks = target) := by
  have key : ∀ (n : Nat) (s : State), (s.DeviceChange (iterate State.videoStep n s) ∧
      (iterate State.videoStep n s).timer = s.timer ∧ (iterate State.videoStep n s).audio = s.audio) ∧
      (iterate State.videoStep n s).video.localTicks = s.video.localTicks + n := by
    intro n
    induction n with
    | zero => exact fun s => ⟨⟨.refl s, rfl, rfl⟩, rfl⟩
    | succ n ih =>
      intro s
      obtain ⟨⟨h1, h2, h3⟩, h4⟩ := ih s.videoStep
      obtain ⟨k1, k2, k3, k4⟩ := s.videoStep_change
      exact ⟨⟨k1.trans h1, h2.trans k2, h3.trans k3⟩, by
        show (iterate _ n s.videoStep).video.localTicks = _
        rw [h4, k4]; omega⟩
  exact ⟨(key _ s).1, fun h => by unfold State.syncVideo; rw [(key _ s).2]; omega⟩

theorem State.syncAudio_change (s : State) (target : Nat) : s.AudioChange (s.syncAudio target) ∧
    (s.audio.localTicks ≤ target → (s.syncAudio target).audio.localTicks = target) := by
  have key : ∀ (n : Nat) (s : State), s.AudioChange (iterate State.audioStep n s) ∧
      (iterate State.audioStep n s).audio.localTicks = s.audio.localTicks + n := by
    intro n
    induction n with
    | zero => exact fun s => ⟨.refl s, rfl⟩
    | succ n ih =>
      intro s
      obtain ⟨h1, h2⟩ := ih s.audioStep
      exact ⟨s.audioChange_audioStep.trans h1, by
        show (iterate _ n s.audioStep).audio.localTicks = _
        rw [h2, State.audioStep_localTicks]; omega⟩
  exact ⟨(key _ s).1, fun h => by unfold State.syncAudio; rw [(key _ s).2]; omega⟩

end Sys2Proof.Machine
end

