-- ==== Sys2Proof/Laws/Shapes.lean ====
section
/-! SUPPORT. The instructions by shape: the meaning of the rows of one shape, and the case principle over the shapes
(70 cases for 511 rows). -/
namespace Sys2Proof.Machine

theorem exec_ldRR (r : R8) (r' : R8) (s : State) :
    exec (.ldRR r r') s = ldRegReg r r' s := by cases r <;> cases r' <;> rfl
theorem exec_ldRImm (r : R8) (n8 : Byte) (s : State) :
    exec (.ldRImm r n8) s = ldRegImm r n8 s := by cases r <;> rfl
theorem exec_ldRHl (r : R8) (s : State) :
    exec (.ldRHl r) s = ldRegHl r s := by cases r <;> rfl
theorem exec_ldHlR (r : R8) (s : State) :
    exec (.ldHlR r) s = ldHlReg r s := by cases r <;> rfl
theorem exec_ldRpImm (p : Rp) (n16 : Word) (s : State) :
    exec (.ldRpImm p n16) s = ldPairImm p n16 s := by cases p <;> rfl
theorem exec_pushRp2 (p : Rp2) (s : State) :
    exec (.pushRp2 p) s = pushPair p s := by cases p <;> rfl
theorem exec_popRp2 (p : Rp2) (s : State) :
    exec (.popRp2 p) s = popPair p s := by cases p <;> rfl
theorem exec_aluR (op : AluOp) (r : R8) (s : State) :
    exec (.aluR op r) s = aluReg op r s := by cases op <;> cases r <;> rfl
theorem exec_aluHl (op : AluOp) (s : State) :
    exec (.aluHl op) s = aluMem op s := by cases op <;> rfl
theorem exec_aluImm (op : AluOp) (n8 : Byte) (s : State) :
    exec (.aluImm op n8) s = aluByte op n8 s := by cases op <;> rfl
theorem exec_incR (r : R8) (s : State) :
    exec (.incR r) s = incReg r s := by cases r <;> rfl
theorem exec_decR (r : R8) (s : State) :
    exec (.decR r) s = decReg r s := by cases r <;> rfl
theorem exec_addHlRp (p : Rp) (s : State) :
    exec (.addHlRp p) s = addHlPair p s := by cases p <;> rfl
theorem exec_incRp (p : Rp) (s : State) :
    exec (.incRp p) s = incPair p s := by cases p <;> rfl
theorem exec_decRp (p : Rp) (s : State) :
    exec (.decRp p) s = decPair p s := by cases p <;> rfl
theorem exec_rotR (op : RotOp) (r : R8) (s : State) :
    exec (.rotR op r) s = rotateReg op r s := by cases op <;> cases r <;> rfl
theorem exec_rotHl (op : RotOp) (s : State) :
    exec (.rotHl op) s = rotateMem op s := by cases op <;> rfl
theorem exec_bitR (b : Oct) (r : R8) (s : State) :
    exec (.bitR b r) s = bitReg b r s := by cases b <;> cases r <;> rfl
theorem exec_bitHl (b : Oct) (s : State) :
    exec (.bitHl b) s = bitMem b s := by cases b <;> rfl
theorem exec_resR (b : Oct) (r : R8) (s : State) :
    exec (.resR b r) s = resReg b r s := by cases b <;> cases r <;> rfl
theorem exec_resHl (b : Oct) (s : State) :
    exec (.resHl b) s = resMem b s := by cases b <;> rfl
theorem exec_setR (b : Oct) (r : R8) (s : State) :
    exec (.setR b r) s = setReg b r s := by cases b <;> cases r <;> rfl
theorem exec_setHl (b : Oct) (s : State) :
    exec (.setHl b) s = setMem b s := by cases b <;> rfl
theorem exec_jpCc (cc : Cond) (n16 : Word) (s : State) :
    exec (.jpCc cc n16) s = jumpIf cc n16 s := by cases cc <;> rfl
theorem exec_jrCc (cc : Cond) (n8 : Byte) (s : State) :
    exec (.jrCc cc n8) s = jumpRelativeIf cc n8 s := by cases cc <;> rfl
theorem exec_callCc (cc : Cond) (n16 : Word) (s : State) :
    exec (.callCc cc n16) s = callIf cc n16 s := by cases cc <;> rfl
theorem exec_retCc (cc : Cond) (s : State) :
    exec (.retCc cc) s = returnIf cc s := by cases cc <;> rfl
theorem exec_rst (b : Oct) (s : State) :
    exec (.rst b) s = restart b s := by cases b <;> rfl
theorem exec_illegal (op : IllegalOp) (s : State) :
    exec (.illegal op) s = raiseUnimplemented op s := by cases op <;> rfl

/-- To show something of every instruction, show it of every shape. -/
theorem Instr.byShape {P : Instr → Prop}
    (ldRR : ∀ r r', P (.ldRR r r'))
    (ldRImm : ∀ r n8, P (.ldRImm r n8))
    (ldRHl : ∀ r, P (.ldRHl r))
    (ldHlR : ∀ r, P (.ldHlR r))
    (ldRpImm : ∀ p n16, P (.ldRpImm p n16))
    (pushRp2 : ∀ p, P (.pushRp2 p))
    (popRp2 : ∀ p, P (.popRp2 p))
    (aluR : ∀ op r, P (.aluR op r))
    (aluHl : ∀ op, P (.aluHl op))
    (aluImm : ∀ op n8, P (.aluImm op n8))
    (incR : ∀ r, P (.incR r))
    (decR : ∀ r, P (.decR r))
    (addHlRp : ∀ p, P (.addHlRp p))
    (incRp : ∀ p, P (.incRp p))
    (decRp : ∀ p, P (.decRp p))
    (rotR : ∀ op r, P (.rotR op r))
    (rotHl : ∀ op, P (.rotHl op))
    (bitR : ∀ b r, P (.bitR b r))
    (bitHl : ∀ b, P (.bitHl b))
    (resR : ∀ b r, P (.resR b r))
    (resHl : ∀ b, P (.resHl b))
    (setR : ∀ b r, P (.setR b r))
    (setHl : ∀ b, P (.setHl b))
    (jpCc : ∀ cc n16, P (.jpCc cc n16))
    (jrCc : ∀ cc n8, P (.jrCc cc n8))
    (callCc : ∀ cc n16, P (.callCc cc n16))
    (retCc : ∀ cc, P (.retCc cc))
    (rst : ∀ b, P (.rst b))
    (illegal : ∀ op, P (.illegal op))
    (nop : P .nop)
    (ld_atBC_A : P .ld_atBC_A)
    (rlca : P .rlca)
    (ld_atA16_SP : ∀ n16, P (.ld_atA16_SP n16))
    (ld_A_atBC : P .ld_A_atBC)
    (rrca : P .rrca)
    (stop : ∀ n8, P (.stop n8))
    (ld_atDE_A : P .ld_atDE_A)
    (rla : P .rla)
    (jr_e8 : ∀ n8, P (.jr_e8 n8))
    (ld_A_atDE : P .ld_A_atDE)
    (rra : P .rra)
    (ld_atHLI_A : P .ld_atHLI_A)
    (daa : P .daa)
    (ld_A_atHLI : P .ld_A_atHLI)
    (cpl : P .cpl)
    (ld_atHLD_A : P .ld_atHLD_A)
    (inc_atHL : P .inc_atHL)
    (dec_atHL : P .dec_atHL)
    (ld_atHL_d8 : ∀ n8, P (.ld_atHL_d8 n8))
    (scf : P .scf)
    (ld_A_atHLD : P .ld_A_atHLD)
    (ccf : P .ccf)
    (halt : P .halt)
    (jp_a16 : ∀ n16, P (.jp_a16 n16))
    (ret : P .ret)
    (call_a16 : ∀ n16, P (.call_a16 n16))
    (reti : P .reti)
    (ldh_atA8_A : ∀ n8, P (.ldh_atA8_A n8))
    (ld_atC_A : P .ld_atC_A)
    (add_SP_e8 : ∀ n8, P (.add_SP_e8 n8))
    (jp_HL : P .jp_HL)
    (ld_atA16_A : ∀ n16, P (.ld_atA16_A n16))
    (ldh_A_atA8 : ∀ n8, P (.ldh_A_atA8 n8))
    (ld_A_atC : P .ld_A_atC)
    (di : P .di)
    (ld_HL_SP_e8 : ∀ n8, P (.ld_HL_SP_e8 n8))
    (ld_SP_HL : P .ld_SP_HL)
    (ld_A_atA16 : ∀ n16, P (.ld_A_atA16 n16))
    (ei : P .ei)
    (i : Instr) : P i :=
  match i with
  | .nop => nop
  | .ld_BC_d16 n16 => ldRpImm .bc n16
  | .ld_atBC_A => ld_atBC_A
  | .inc_BC => incRp .bc
  | .inc_B => incR .b
  | .dec_B => decR .b
  | .ld_B_d8 n8 => ldRImm .b n8
  | .rlca => rlca
  | .ld_atA16_SP n16 => ld_atA16_SP n16
  | .add_HL_BC => addHlRp .bc
  | .ld_A_atBC => ld_A_atBC
  | .dec_BC => decRp .bc
  | .inc_C => incR .c
  | .dec_C => decR .c
  | .ld_C_d8 n8 => ldRImm .c n8
  | .rrca => rrca
  | .stop n8 => stop n8
  | .ld_DE_d16 n16 => ldRpImm .de n16
  | .ld_atDE_A => ld_atDE_A
  | .inc_DE => incRp .de
  | .inc_D => incR .d
  | .dec_D => decR .d
  | .ld_D_d8 n8 => ldRImm .d n8
  | .rla => rla
  | .jr_e8 n8 => jr_e8 n8
  | .add_HL_DE => addHlRp .de
  | .ld_A_atDE => ld_A_atDE
  | .dec_DE => decRp .de
  | .inc_E => incR .e
  | .dec_E => decR .e
  | .ld_E_d8 n8 => ldRImm .e n8
  | .rra => rra
  | .jr_NZ_e8 n8 => jrCc .nz n8
  | .ld_HL_d16 n16 => ldRpImm .hl n16
  | .ld_atHLI_A => ld_atHLI_A
  | .inc_HL => incRp .hl
  | .inc_H => incR .h
  | .dec_H => decR .h
  | .ld_H_d8 n8 => ldRImm .h n8
  | .daa => daa
  | .jr_Z_e8 n8 => jrCc .z n8
  | .add_HL_HL => addHlRp .hl
  | .ld_A_atHLI => ld_A_atHLI
  | .dec_HL => decRp .hl
  | .inc_L => incR .l
  | .dec_L => decR .l
  | .ld_L_d8 n8 => ldRImm .l n8
  | .cpl => cpl
  | .jr_NC_e8 n8 => jrCc .nc n8
  | .ld_SP_d16 n16 => ldRpImm .sp n16
  | .ld_atHLD_A => ld_atHLD_A
  | .inc_SP => incRp .sp
  | .inc_atHL => inc_atHL
  | .dec_atHL => dec_atHL
  | .ld_atHL_d8 n8 => ld_atHL_d8 n8
  | .scf => scf
  | .jr_C_e8 n8 => jrCc .c n8
  | .add_HL_SP => addHlRp .sp
  | .ld_A_atHLD => ld_A_atHLD
  | .dec_SP => decRp .sp
  | .inc_A => incR .a
  | .dec_A => decR .a
  | .ld_A_d8 n8 => ldRImm .a n8
  | .ccf => ccf
  | .ld_B_B => ldRR .b .b
  | .ld_B_C => ldRR .b .c
  | .ld_B_D => ldRR .b .d
  | .ld_B_E => ldRR .b .e
  | .ld_B_H => ldRR .b .h
  | .ld_B_L => ldRR .b .l
  | .ld_B_atHL => ldRHl .b
  | .ld_B_A => ldRR .b .a
  | .ld_C_B => ldRR .c .b
  | .ld_C_C => ldRR .c .c
  | .ld_C_D => ldRR .c .d
  | .ld_C_E => ldRR .c .e
  | .ld_C_H => ldRR .c .h
  | .ld_C_L => ldRR .c .l
  | .ld_C_atHL => ldRHl .c
  | .ld_C_A => ldRR .c .a
  | .ld_D_B => ldRR .d .b
  | .ld_D_C => ldRR .d .c
  | .ld_D_D => ldRR .d .d
  | .ld_D_E => ldRR .d .e
  | .ld_D_H => ldRR .d .h
  | .ld_D_L => ldRR .d .l
  | .ld_D_atHL => ldRHl .d
  | .ld_D_A => ldRR .d .a
  | .ld_E_B => ldRR .e .b
  | .ld_E_C => ldRR .e .c
  | .ld_E_D => ldRR .e .d
  | .ld_E_E => ldRR .e .e
  | .ld_E_H => ldRR .e .h
  | .ld_E_L => ldRR .e .l
  | .ld_E_atHL => ldRHl .e
  | .ld_E_A => ldRR .e .a
  | .ld_H_B => ldRR .h .b
  | .ld_H_C => ldRR .h .c
  | .ld_H_D => ldRR .h .d
  | .ld_H_E => ldRR .h .e
  | .ld_H_H => ldRR .h .h
  | .ld_H_L => ldRR .h .l
  | .ld_H_atHL => ldRHl .h
  | .ld_H_A => ldRR .h .a
  | .ld_L_B => ldRR .l .b
  | .ld_L_C => ldRR .l .c
  | .ld_L_D => ldRR .l .d
  | .ld_L_E => ldRR .l .e
  | .ld_L_H => ldRR .l .h
  | .ld_L_L => ldRR .l .l
  | .ld_L_atHL => ldRHl .l
  | .ld_L_A => ldRR .l .a
  | .ld_atHL_B => ldHlR .b
  | .ld_atHL_C => ldHlR .c
  | .ld_atHL_D => ldHlR .d
  | .ld_atHL_E => ldHlR .e
  | .ld_atHL_H => ldHlR .h
  | .ld_atHL_L => ldHlR .l
  | .halt => halt
  | .ld_atHL_A => ldHlR .a
  | .ld_A_B => ldRR .a .b
  | .ld_A_C => ldRR .a .c
  | .ld_A_D => ldRR .a .d
  | .ld_A_E => ldRR .a .e
  | .ld_A_H => ldRR .a .h
  | .ld_A_L => ldRR .a .l
  | .ld_A_atHL => ldRHl .a
  | .ld_A_A => ldRR .a .a
  | .add_A_B => aluR .add .b
  | .add_A_C => aluR .add .c
  | .add_A_D => aluR .add .d
  | .add_A_E => aluR .add .e
  | .add_A_H => aluR .add .h
  | .add_A_L => aluR .add .l
  | .add_A_atHL => aluHl .add
  | .add_A_A => aluR .add .a
  | .adc_A_B => aluR .adc .b
  | .adc_A_C => aluR .adc .c
  | .adc_A_D => aluR .adc .d
  | .adc_A_E => aluR .adc .e
  | .adc_A_H => aluR .adc .h
  | .adc_A_L => aluR .adc .l
  | .adc_A_atHL => aluHl .adc
  | .adc_A_A => aluR .adc .a
  | .sub_B => aluR .sub .b
  | .sub_C => aluR .sub .c
  | .sub_D => aluR .sub .d
  | .sub_E => aluR .sub .e
  | .sub_H => aluR .sub .h
  | .sub_L => aluR .sub .l
  | .sub_atHL => aluHl .sub
  | .sub_A => aluR .sub .a
  | .sbc_A_B => aluR .sbc .b
  | .sbc_A_C => aluR .sbc .c
  | .sbc_A_D => aluR .sbc .d
  | .sbc_A_E => aluR .sbc .e
  | .sbc_A_H => aluR .sbc .h
  | .sbc_A_L => aluR .sbc .l
  | .sbc_A_atHL => aluHl .sbc
  | .sbc_A_A => aluR .sbc .a
  | .and_B => aluR .and .b
  | .and_C => aluR .and .c
  | .and_D => aluR .and .d
  | .and_E => aluR .and .e
  | .and_H => aluR .and .h
  | .and_L => aluR .and .l
  | .and_atHL => aluHl .and
  | .and_A => aluR .and .a
  | .xor_B => aluR .xor .b
  | .xor_C => aluR .xor .c
  | .xor_D => aluR .xor .d
  | .xor_E => aluR .xor .e
  | .xor_H => aluR .xor .h
  | .xor_L => aluR .xor .l
  | .xor_atHL => aluHl .xor
  | .xor_A => aluR .xor .a
  | .or_B => aluR .or .b
  | .or_C => aluR .or .c
  | .or_D => aluR .or .d
  | .or_E => aluR .or .e
  | .or_H => aluR .or .h
  | .or_L => aluR .or .l
  | .or_atHL => aluHl .or
  | .or_A => aluR .or .a
  | .cp_B => aluR .cp .b
  | .cp_C => aluR .cp .c
  | .cp_D => aluR .cp .d
  | .cp_E => aluR .cp .e
  | .cp_H => aluR .cp .h
  | .cp_L => aluR .cp .l
  | .cp_atHL => aluHl .cp
  | .cp_A => aluR .cp .a
  | .ret_NZ => retCc .nz
  | .pop_BC => popRp2 .bc
  | .jp_NZ_a16 n16 => jpCc .nz n16
  | .jp_a16 n16 => jp_a16 n16
  | .call_NZ_a16 n16 => callCc .nz n16
  | .push_BC => pushRp2 .bc
  | .add_A_d8 n8 => aluImm .add n8
  | .rst_00 => rst .o0
  | .ret_Z => retCc .z
  | .ret => ret
  | .jp_Z_a16 n16 => jpCc .z n16
  | .call_Z_a16 n16 => callCc .z n16
  | .call_a16 n16 => call_a16 n16
  | .adc_A_d8 n8 => aluImm .adc n8
  | .rst_08 => rst .o1
  | .ret_NC => retCc .nc
  | .pop_DE => popRp2 .de
  | .jp_NC_a16 n16 => jpCc .nc n16
  | .illegal_D3 => illegal .xD3
  | .call_NC_a16 n16 => callCc .nc n16
  | .push_DE => pushRp2 .de
  | .sub_d8 n8 => aluImm .sub n8
  | .rst_10 => rst .o2
  | .ret_C => retCc .c
  | .reti => reti
  | .jp_C_a16 n16 => jpCc .c n16
  | .illegal_DB => illegal .xDB
  | .call_C_a16 n16 => callCc .c n16
  | .illegal_DD => illegal .xDD
  | .sbc_A_d8 n8 => aluImm .sbc n8
  | .rst_18 => rst .o3
  | .ldh_atA8_A n8 => ldh_atA8_A n8
  | .pop_HL => popRp2 .hl
  | .ld_atC_A => ld_atC_A
  | .illegal_E3 => illegal .xE3
  | .illegal_E4 => illegal .xE4
  | .push_HL => pushRp2 .hl
  | .and_d8 n8 => aluImm .and n8
  | .rst_20 => rst .o4
  | .add_SP_e8 n8 => add_SP_e8 n8
  | .jp_HL => jp_HL
  | .ld_atA16_A n16 => ld_atA16_A n16
  | .illegal_EB => illegal .xEB
  | .illegal_EC => illegal .xEC
  | .illegal_ED => illegal .xED
  | .xor_d8 n8 => aluImm .xor n8
  | .rst_28 => rst .o5
  | .ldh_A_atA8 n8 => ldh_A_atA8 n8
  | .pop_AF => popRp2 .af
  | .ld_A_atC => ld_A_atC
  | .di => di
  | .illegal_F4 => illegal .xF4
  | .push_AF => pushRp2 .af
  | .or_d8 n8 => aluImm .or n8
  | .rst_30 => rst .o6
  | .ld_HL_SP_e8 n8 => ld_HL_SP_e8 n8
  | .ld_SP_HL => ld_SP_HL
  | .ld_A_atA16 n16 => ld_A_atA16 n16
  | .ei => ei
  | .illegal_FC => illegal .xFC
  | .illegal_FD => illegal .xFD
  | .cp_d8 n8 => aluImm .cp n8
  | .rst_38 => rst .o7
  | .rlc_B => rotR .rlc .b
  | .rlc_C => rotR .rlc .c
  | .rlc_D => rotR .rlc .d
  | .rlc_E => rotR .rlc .e
  | .rlc_H => rotR .rlc .h
  | .rlc_L => rotR .rlc .l
  | .rlc_atHL => rotHl .rlc
  | .rlc_A => rotR .rlc .a
  | .rrc_B => rotR .rrc .b
  | .rrc_C => rotR .rrc .c
  | .rrc_D => rotR .rrc .d
  | .rrc_E => rotR .rrc .e
  | .rrc_H => rotR .rrc .h
  | .rrc_L => rotR .rrc .l
  | .rrc_atHL => rotHl .rrc
  | .rrc_A => rotR .rrc .a
  | .rl_B => rotR .rl .b
  | .rl_C => rotR .rl .c
  | .rl_D => rotR .rl .d
  | .rl_E => rotR .rl .e
  | .rl_H => rotR .rl .h
  | .rl_L => rotR .rl .l
  | .rl_atHL => rotHl .rl
  | .rl_A => rotR .rl .a
  | .rr_B => rotR .rr .b
  | .rr_C => rotR .rr .c
  | .rr_D => rotR .rr .d
  | .rr_E => rotR .rr .e
  | .rr_H => rotR .rr .h
  | .rr_L => rotR .rr .l
  | .rr_atHL => rotHl .rr
  | .rr_A => rotR .rr .a
  | .sla_B => rotR .sla .b
  | .sla_C => rotR .sla .c
  | .sla_D => rotR .sla .d
  | .sla_E => rotR .sla .e
  | .sla_H => rotR .sla .h
  | .sla_L => rotR .sla .l
  | .sla_atHL => rotHl .sla
  | .sla_A => rotR .sla .a
  | .sra_B => rotR .sra .b
  | .sra_C => rotR .sra .c
  | .sra_D => rotR .sra .d
  | .sra_E => rotR .sra .e
  | .sra_H => rotR .sra .h
  | .sra_L => rotR .sra .l
  | .sra_atHL => rotHl .sra
  | .sra_A => rotR .sra .a
  | .swap_B => rotR .swap .b
  | .swap_C => rotR .swap .c
  | .swap_D => rotR .swap .d
  | .swap_E => rotR .swap .e
  | .swap_H => rotR .swap .h
  | .swap_L => rotR .swap .l
  | .swap_atHL => rotHl .swap
  | .swap_A => rotR .swap .a
  | .srl_B => rotR .srl .b
  | .srl_C => rotR .srl .c
  | .srl_D => rotR .srl .d
  | .srl_E => rotR .srl .e
  | .srl_H => rotR .srl .h
  | .srl_L => rotR .srl .l
  | .srl_atHL => rotHl .srl
  | .srl_A => rotR .srl .a
  | .bit_0_B => bitR .o0 .b
  | .bit_0_C => bitR .o0 .c
  | .bit_0_D => bitR .o0 .d
  | .bit_0_E => bitR .o0 .e
  | .bit_0_H => bitR .o0 .h
  | .bit_0_L => bitR .o0 .l
  | .bit_0_atHL => bitHl .o0
  | .bit_0_A => bitR .o0 .a
  | .bit_1_B => bitR .o1 .b
  | .bit_1_C => bitR .o1 .c
  | .bit_1_D => bitR .o1 .d
  | .bit_1_E => bitR .o1 .e
  | .bit_1_H => bitR .o1 .h
  | .bit_1_L => bitR .o1 .l
  | .bit_1_atHL => bitHl .o1
  | .bit_1_A => bitR .o1 .a
  | .bit_2_B => bitR .o2 .b
  | .bit_2_C => bitR .o2 .c
  | .bit_2_D => bitR .o2 .d
  | .bit_2_E => bitR .o2 .e
  | .bit_2_H => bitR .o2 .h
  | .bit_2_L => bitR .o2 .l
  | .bit_2_atHL => bitHl .o2
  | .bit_2_A => bitR .o2 .a
  | .bit_3_B => bitR .o3 .b
  | .bit_3_C => bitR .o3 .c
  | .bit_3_D => bitR .o3 .d
  | .bit_3_E => bitR .o3 .e
  | .bit_3_H => bitR .o3 .h
  | .bit_3_L => bitR .o3 .l
  | .bit_3_atHL => bitHl .o3
  | .bit_3_A => bitR .o3 .a
  | .bit_4_B => bitR .o4 .b
  | .bit_4_C => bitR .o4 .c
  | .bit_4_D => bitR .o4 .d
  | .bit_4_E => bitR .o4 .e
  | .bit_4_H => bitR .o4 .h
  | .bit_4_L => bitR .o4 .l
  | .bit_4_atHL => bitHl .o4
  | .bit_4_A => bitR .o4 .a
  | .bit_5_B => bitR .o5 .b
  | .bit_5_C => bitR .o5 .c
  | .bit_5_D => bitR .o5 .d
  | .bit_5_E => bitR .o5 .e
  | .bit_5_H => bitR .o5 .h
  | .bit_5_L => bitR .o5 .l
  | .bit_5_atHL => bitHl .o5
  | .bit_5_A => bitR .o5 .a
  | .bit_6_B => bitR .o6 .b
  | .bit_6_C => bitR .o6 .c
  | .bit_6_D => bitR .o6 .d
  | .bit_6_E => bitR .o6 .e
  | .bit_6_H => bitR .o6 .h
  | .bit_6_L => bitR .o6 .l
  | .bit_6_atHL => bitHl .o6
  | .bit_6_A => bitR .o6 .a
  | .bit_7_B => bitR .o7 .b
  | .bit_7_C => bitR .o7 .c
  | .bit_7_D => bitR .o7 .d
  | .bit_7_E => bitR .o7 .e
  | .bit_7_H => bitR .o7 .h
  | .bit_7_L => bitR .o7 .l
  | .bit_7_atHL => bitHl .o7
  | .bit_7_A => bitR .o7 .a
  | .res_0_B => resR .o0 .b
  | .res_0_C => resR .o0 .c
  | .res_0_D => resR .o0 .d
  | .res_0_E => resR .o0 .e
  | .res_0_H => resR .o0 .h
  | .res_0_L => resR .o0 .l
  | .res_0_atHL => resHl .o0
  | .res_0_A => resR .o0 .a
  | .res_1_B => resR .o1 .b
  | .res_1_C => resR .o1 .c
  | .res_1_D => resR .o1 .d
  | .res_1_E => resR .o1 .e
  | .res_1_H => resR .o1 .h
  | .res_1_L => resR .o1 .l
  | .res_1_atHL => resHl .o1
  | .res_1_A => resR .o1 .a
  | .res_2_B => resR .o2 .b
  | .res_2_C => resR .o2 .c
  | .res_2_D => resR .o2 .d
  | .res_2_E => resR .o2 .e
  | .res_2_H => resR .o2 .h
  | .res_2_L => resR .o2 .l
  | .res_2_atHL => resHl .o2
  | .res_2_A => resR .o2 .a
  | .res_3_B => resR .o3 .b
  | .res_3_C => resR .o3 .c
  | .res_3_D => resR .o3 .d
  | .res_3_E => resR .o3 .e
  | .res_3_H => resR .o3 .h
  | .res_3_L => resR .o3 .l
  | .res_3_atHL => resHl .o3
  | .res_3_A => resR .o3 .a
  | .res_4_B => resR .o4 .b
  | .res_4_C => resR .o4 .c
  | .res_4_D => resR .o4 .d
  | .res_4_E => resR .o4 .e
  | .res_4_H => resR .o4 .h
  | .res_4_L => resR .o4 .l
  | .res_4_atHL => resHl .o4
  | .res_4_A => resR .o4 .a
  | .res_5_B => resR .o5 .b
  | .res_5_C => resR .o5 .c
  | .res_5_D => resR .o5 .d
  | .res_5_E => resR .o5 .e
  | .res_5_H => resR .o5 .h
  | .res_5_L => resR .o5 .l
  | .res_5_atHL => resHl .o5
  | .res_5_A => resR .o5 .a
  | .res_6_B => resR .o6 .b
  | .res_6_C => resR .o6 .c
  | .res_6_D => resR .o6 .d
  | .res_6_E => resR .o6 .e
  | .res_6_H => resR .o6 .h
  | .res_6_L => resR .o6 .l
  | .res_6_atHL => resHl .o6
  | .res_6_A => resR .o6 .a
  | .res_7_B => resR .o7 .b
  | .res_7_C => resR .o7 .c
  | .res_7_D => resR .o7 .d
  | .res_7_E => resR .o7 .e
  | .res_7_H => resR .o7 .h
  | .res_7_L => resR .o7 .l
  | .res_7_atHL => resHl .o7
  | .res_7_A => resR .o7 .a
  | .set_0_B => setR .o0 .b
  | .set_0_C => setR .o0 .c
  | .set_0_D => setR .o0 .d
  | .set_0_E => setR .o0 .e
  | .set_0_H => setR .o0 .h
  | .set_0_L => setR .o0 .l
  | .set_0_atHL => setHl .o0
  | .set_0_A => setR .o0 .a
  | .set_1_B => setR .o1 .b
  | .set_1_C => setR .o1 .c
  | .set_1_D => setR .o1 .d
  | .set_1_E => setR .o1 .e
  | .set_1_H => setR .o1 .h
  | .set_1_L => setR .o1 .l
  | .set_1_atHL => setHl .o1
  | .set_1_A => setR .o1 .a
  | .set_2_B => setR .o2 .b
  | .set_2_C => setR .o2 .c
  | .set_2_D => setR .o2 .d
  | .set_2_E => setR .o2 .e
  | .set_2_H => setR .o2 .h
  | .set_2_L => setR .o2 .l
  | .set_2_atHL => setHl .o2
  | .set_2_A => setR .o2 .a
  | .set_3_B => setR .o3 .b
  | .set_3_C => setR .o3 .c
  | .set_3_D => setR .o3 .d
  | .set_3_E => setR .o3 .e
  | .set_3_H => setR .o3 .h
  | .set_3_L => setR .o3 .l
  | .set_3_atHL => setHl .o3
  | .set_3_A => setR .o3 .a
  | .set_4_B => setR .o4 .b
  | .set_4_C => setR .o4 .c
  | .set_4_D => setR .o4 .d
  | .set_4_E => setR .o4 .e
  | .set_4_H => setR .o4 .h
  | .set_4_L => setR .o4 .l
  | .set_4_atHL => setHl .o4
  | .set_4_A => setR .o4 .a
  | .set_5_B => setR .o5 .b
  | .set_5_C => setR .o5 .c
  | .set_5_D => setR .o5 .d
  | .set_5_E => setR .o5 .e
  | .set_5_H => setR .o5 .h
  | .set_5_L => setR .o5 .l
  | .set_5_atHL => setHl .o5
  | .set_5_A => setR .o5 .a
  | .set_6_B => setR .o6 .b
  | .set_6_C => setR .o6 .c
  | .set_6_D => setR .o6 .d
  | .set_6_E => setR .o6 .e
  | .set_6_H => setR .o6 .h
  | .set_6_L => setR .o6 .l
  | .set_6_atHL => setHl .o6
  | .set_6_A => setR .o6 .a
  | .set_7_B => setR .o7 .b
  | .set_7_C => setR .o7 .c
  | .set_7_D => setR .o7 .d
  | .set_7_E => setR .o7 .e
  | .set_7_H => setR .o7 .h
  | .set_7_L => setR .o7 .l
  | .set_7_atHL => setHl .o7
  | .set_7_A => setR .o7 .a

end Sys2Proof.Machine
end

