-- ==== Sys2Proof/Laws/Exec.lean ====
section
/-! SUPPORT. A predicate that the few things an instruction does keep is kept by every instruction: `exec_keeps`. -/
namespace Sys2Proof.Machine

/-- What any change of the CPU by an instruction or a dispatch respects: the low nibble of `F` stays zero, the ticks
never go back, and it is not the change that stops a run. -/
structure CpuStep (c c' : Cpu) : Prop where
  flags : c.f &&& 0x0F = 0 → c'.f &&& 0x0F = 0
  ticks : c.ticks ≤ c'.ticks
  run : ∀ info, c'.runState = .faulted info → c.runState = .faulted info

theorem CpuStep.same {c c' : Cpu} (hf : c'.f = c.f) (ht : c.ticks ≤ c'.ticks) (hr : c'.runState = c.runState) :
    CpuStep c c' :=
  ⟨fun h => hf ▸ h, ht, fun _ h => hr ▸ h⟩

/-- A predicate kept by each of the few things an instruction does to the machine. -/
structure Kept (Q : State → Prop) : Prop where
  cpu : ∀ s c, CpuStep s.cpu c → Q s → Q { s with cpu := c }
  read : ∀ s a, Q s → Q (s.afterRead a)
  store : ∀ s a v, s.backed a = true → Q s → Q (s.busStore a v)
  dmaByte : ∀ s n v, n < s.cfg.dmaLength → Q s → Q (s.setCell .oam n v)
  dmaRegister : ∀ s v, Q s → Q (s.setIo ioDMA v)
  stop : ∀ s info, Q s → Q (s.raise info)

/-- A change of the CPU that respects `CpuStep` from every CPU. -/
def CpuFn (f : Cpu → Cpu) : Prop := ∀ c, CpuStep c (f c)

theorem CpuFn.of_fields {f : Cpu → Cpu} (hf : ∀ c, (f c).f = c.f ∨ (f c).f &&& 0x0F = 0)
    (ht : ∀ c, c.ticks ≤ (f c).ticks) (hr : ∀ c info, (f c).runState = .faulted info → c.runState = .faulted info) :
    CpuFn f := fun c => ⟨fun h => (hf c).elim (fun e => e ▸ h) id, ht c, hr c⟩

section
variable {Q : State → Prop} (k : Kept Q)
include k

theorem Kept.onCpu {s : State} {f : Cpu → Cpu} (hf : CpuStep s.cpu (f s.cpu)) (h : Q s) : Q (s.onCpu f) :=
  k.cpu s _ hf h

/-- The CPU changes and the access goes through. -/
theorem Kept.changed {α : Type} {v : α} {s : State} {f : Cpu → Cpu} (h : Q s) (hf : CpuStep s.cpu (f s.cpu)) :
    (Access.ok v (s.onCpu f)).Holds Q := k.onCpu hf h

theorem Kept.setPc {s : State} (v : Cpu → Word) (h : Q s) : Q (s.onCpu fun c => c.setPc (v c)) :=
  k.onCpu (.same rfl (le_refl _) rfl) h

theorem Kept.setSp {s : State} (v : Cpu → Word) (h : Q s) : Q (s.onCpu fun c => c.setSp (v c)) :=
  k.onCpu (.same rfl (le_refl _) rfl) h

theorem Kept.addTicks {s : State} (n : Nat) (h : Q s) : Q (s.onCpu fun c => c.addTicks n) :=
  k.onCpu (.same rfl (Nat.le_add_right _ _) rfl) h

theorem Kept.readByte {s : State} (a : Word) (h : Q s) : (readByte a s).Holds Q := by
  cases hb : s.backed a with
  | true => rw [readByte_backed hb]; exact k.read s a h
  | false => rw [readByte_unbacked hb]; exact h

theorem Kept.writeDma {s : State} (v : Byte) (h : Q s) : (writeDma v s).Holds Q := by
  have hQ : Q (s.setIo ioDMA v) ∧ (s.setIo ioDMA v).cfg = s.cfg := ⟨k.dmaRegister s v h, rfl⟩
  have := dmaCopy_holds (Q := fun t => Q t ∧ t.cfg = s.cfg) (page := v) (count := s.cfg.dmaLength) (i := 0)
    (bound := s.cfg.dmaLength) (by omega)
    (fun t a ht => ⟨k.read t a ht.1, by simpa using ht.2⟩)
    (fun t n w hn ht => ⟨k.dmaByte t n w (by rw [ht.2]; exact hn) ht.1, by simpa using ht.2⟩) hQ
  exact this.1

theorem Kept.writeByte {s : State} (a : Word) (v : Byte) (h : Q s) : (writeByte a v s).Holds Q := by
  unfold Machine.writeByte
  split
  · split
    · exact k.writeDma v h
    · next hb _ => exact k.store s a v hb h
  · exact h

theorem Kept.push16 {s : State} (v : Word) (h : Q s) : (push16 v s).Holds Q := by
  rw [push16_eq]
  exact Access.holds_andThen (k.writeByte _ _ (k.setSp _ h)) fun _ t _ ht => k.writeByte _ _ (k.setSp _ ht)

theorem Kept.pop16 {s : State} (h : Q s) : (pop16 s).Holds Q :=
  Access.holds_andThen (k.readByte _ h) fun _ _ _ h1 =>
    Access.holds_andThen (k.readByte _ (k.setSp _ h1)) fun _ _ _ h2 =>
      k.changed h2 (.same rfl (le_refl _) rfl)

theorem Kept.writeWord {s : State} (a v : Word) (h : Q s) : (writeWord a v s).Holds Q :=
  Access.holds_andThen (k.writeByte _ _ h) fun _ _ _ h1 => k.writeByte _ _ h1

theorem Kept.cpuOnly {s : State} {f : Cpu → Cpu} (hf : CpuStep s.cpu (f s.cpu)) (h : Q s) : (cpuOnly f s).Holds Q :=
  k.onCpu hf h

theorem Kept.loadA {s : State} (a : Word) (h : Q s) : (loadA a s).Holds Q :=
  Access.holds_andThen (k.readByte a h) fun _ _ _ h1 => k.changed h1 (.same rfl (le_refl _) rfl)

theorem Kept.storeA {s : State} (a : Word) (h : Q s) : (storeA a s).Holds Q := k.writeByte _ _ h

theorem Kept.withHl {s : State} {f : Byte → Cpu → Cpu} (hf : ∀ v, CpuFn (f v)) (h : Q s) : (withHl f s).Holds Q :=
  Access.holds_andThen (k.readByte _ h) fun v _ _ h1 => k.onCpu (hf v _) h1

theorem Kept.modifyHl {s : State} (result : Byte → Flags → Byte) (flags : Byte → Flags → Option Flags) (h : Q s) :
    (modifyHl result flags s).Holds Q :=
  Access.holds_andThen (k.readByte _ h) fun v _ _ h1 =>
    Access.holds_andThen (k.writeByte _ _ h1) fun _ t _ h2 => by
      split
      · exact k.changed h2 ⟨fun _ => Flags.toByte_lowNibble _, le_refl _, fun _ h => h⟩
      · exact h2

theorem Kept.thenMoveHl {x : Access Unit} (delta : Word) (h : x.Holds Q) : (thenMoveHl delta x).Holds Q :=
  Access.holds_andThen h fun _ _ _ h1 => k.changed h1 (.same rfl (le_refl _) rfl)

theorem Kept.jumpTo {s : State} (v : Word) (h : Q s) : (jumpTo v s).Holds Q :=
  k.changed h (.same rfl (le_refl _) rfl)
theorem Kept.jumpRelative {s : State} (v : Byte) (h : Q s) : (jumpRelative v s).Holds Q :=
  k.changed h (.same rfl (le_refl _) rfl)
theorem Kept.callTo {s : State} (v : Word) (h : Q s) : (callTo v s).Holds Q :=
  Access.holds_andThen (k.push16 _ h) fun _ _ _ h1 => k.changed h1 (.same rfl (le_refl _) rfl)
theorem Kept.returnToCaller {s : State} (h : Q s) : (returnToCaller s).Holds Q :=
  Access.holds_andThen (k.pop16 h) fun _ _ _ h1 => k.changed h1 (.same rfl (le_refl _) rfl)
theorem Kept.returnFromInterrupt {s : State} (h : Q s) : (returnFromInterrupt s).Holds Q :=
  Access.holds_andThen (k.pop16 h) fun _ _ _ h1 => k.changed h1 (.same rfl (le_refl _) rfl)
theorem Kept.whenTaken {s : State} (cc : Cond) (extra : Nat) {handler : State → Access Unit}
    (hh : (handler s).Holds Q) (h : Q s) : (whenTaken cc extra handler s).Holds Q := by
  unfold Machine.whenTaken
  split
  · exact Access.holds_andThen hh fun _ _ _ h1 => k.addTicks _ h1
  · exact h

theorem Kept.dispatch {s : State} (i : IrqLine) (hio : ∀ t v, Q t → Q (t.setIo ioIF v)) (h : Q s) :
    (dispatch i s).Holds Q := by
  have hw : CpuStep s.cpu s.cpu.wake := ⟨fun h => h, le_refl _, fun info he => by
    unfold Cpu.wake at he; dsimp only at he; split at he
    · cases he
    · exact he⟩
  exact Access.holds_andThen (k.push16 _ (k.onCpu hw h)) fun _ _ _ h1 =>
    k.changed (hio _ _ h1) (.same rfl (Nat.le_add_right _ _) rfl)

theorem Kept.testInterrupts {s : State} (hio : ∀ t v, Q t → Q (t.setIo ioIF v)) (h : Q s) :
    (testInterrupts s).Holds Q := by
  unfold Machine.testInterrupts
  split
  · split
    · exact k.dispatch _ hio h
    · exact h
  · exact h

/-- An instruction whose handler keeps a predicate keeps it. -/
theorem Kept.runOp {len ticks : Nat} {handler : State → Access Unit} {s t : State}
    (hh : ∀ u, Q u → (handler u).Holds Q) (h : Q s) (hn : runOp len ticks handler s = .next t) : Q t :=
  runOp_holds (hh _ (k.setPc _ h)) (fun _ hu => k.addTicks _ hu) (fun _ _ hu => k.stop _ _ hu) hn

theorem Kept.runCpu {len ticks : Nat} {f : Cpu → Cpu} {s t : State} (hf : CpuFn f) (h : Q s)
    (hn : Machine.runOp len ticks (Machine.cpuOnly f) s = .next t) : Q t :=
  k.runOp (fun _ hu => k.cpuOnly (hf _) hu) h hn

end

/-! ### The changes of the CPU that instructions make -/

theorem cpuFn_plain {f : Cpu → Cpu} (hf : ∀ c, (f c).f = c.f) (ht : ∀ c, (f c).ticks = c.ticks)
    (hr : ∀ c, (f c).runState = c.runState) : CpuFn f :=
  .of_fields (fun c => .inl (hf c)) (fun c => (ht c).ge) fun c _ h => by rwa [hr c] at h

theorem cpuFn_flags {f : Cpu → Cpu} (hf : ∀ c, (f c).f &&& 0x0F = 0) (ht : ∀ c, (f c).ticks = c.ticks)
    (hr : ∀ c, (f c).runState = c.runState) : CpuFn f :=
  .of_fields (fun c => .inr (hf c)) (fun c => (ht c).ge) fun c _ h => by rwa [hr c] at h

theorem cpuFn_setReg (dst : R8) (v : Cpu → Byte) : CpuFn fun c => c.setReg dst (v c) :=
  cpuFn_plain (fun c => Cpu.setReg_f c dst _) (fun c => Cpu.setReg_ticks c dst _) (fun c => Cpu.setReg_runState c dst _)

theorem cpuFn_setRp (p : Rp) (v : Cpu → Word) : CpuFn fun c => c.setRp p (v c) := by
  cases p <;> exact cpuFn_plain (fun _ => rfl) (fun _ => rfl) (fun _ => rfl)

theorem cpuFn_setRp2 (p : Rp2) (v : Word) : CpuFn fun c => c.setRp2 p v := by
  cases p
  · exact cpuFn_plain (fun _ => rfl) (fun _ => rfl) (fun _ => rfl)
  · exact cpuFn_plain (fun _ => rfl) (fun _ => rfl) (fun _ => rfl)
  · exact cpuFn_plain (fun _ => rfl) (fun _ => rfl) (fun _ => rfl)
  · refine cpuFn_flags (fun _ => ?_) (fun _ => rfl) (fun _ => rfl)
    show loByte v &&& 0xF0 &&& 0x0F = 0
    rw [BitVec.and_assoc]; exact BitVec.and_zero

theorem cpuFn_setFlags (g : Cpu → Cpu) (f : Cpu → Flags) (ht : ∀ c, (g c).ticks = c.ticks)
    (hr : ∀ c, (g c).runState = c.runState) : CpuFn fun c => (g c).setFlags (f c) :=
  cpuFn_flags (fun _ => Flags.toByte_lowNibble _) ht hr

theorem cpuFn_aluOnA (op : AluOp) (v : Cpu → Byte) : CpuFn fun c => aluOnA op (v c) c :=
  cpuFn_flags (fun _ => Flags.toByte_lowNibble _) (fun _ => rfl) (fun _ => rfl)

theorem cpuFn_modifyReg (r : R8) (result : Byte → Flags → Byte) (flags : Byte → Flags → Option Flags) :
    CpuFn (modifyReg r result flags) := by
  intro c
  unfold modifyReg
  dsimp only
  split
  · exact ⟨fun _ => Flags.toByte_lowNibble _, (Cpu.setReg_ticks c r _).ge, fun info h => by
      have : (c.setReg r (result (c.reg r) c.flags)).runState = .faulted info := h
      rwa [Cpu.setReg_runState] at this⟩
  · exact cpuFn_setReg r (fun c => result (c.reg r) c.flags) c

/-! ### Instructions that are alone in their shape -/

section
variable {Q : State → Prop} (k : Kept Q) {s t : State} (h : Q s)
include k h

theorem Kept.nop (hn : exec .nop s = .next t) : Q t :=
  k.runCpu (f := id) (cpuFn_plain (fun _ => rfl) (fun _ => rfl) fun _ => rfl) h hn
theorem Kept.di (hn : exec .di s = .next t) : Q t := by
  refine k.runCpu ?_ h hn
  exact cpuFn_plain (fun _ => rfl) (fun _ => rfl) fun _ => rfl
theorem Kept.halted (hn : exec .halt s = .next t) : Q t := by
  refine k.runCpu ?_ h hn
  exact .of_fields (fun _ => .inl rfl) (fun _ => le_refl _) fun _ _ he => by cases he
theorem Kept.stopped {n8 : Byte} (hn : exec (.stop n8) s = .next t) : Q t := by
  refine k.runCpu ?_ h hn
  exact .of_fields (fun _ => .inl rfl) (fun _ => le_refl _) fun _ _ he => by cases he
theorem Kept.daa (hn : exec .daa s = .next t) : Q t := by
  refine k.runCpu ?_ h hn
  exact cpuFn_flags (fun _ => Flags.toByte_lowNibble _) (fun _ => rfl) fun _ => rfl
theorem Kept.cpl (hn : exec .cpl s = .next t) : Q t := by
  refine k.runCpu ?_ h hn
  exact cpuFn_flags (fun _ => Flags.toByte_lowNibble _) (fun _ => rfl) fun _ => rfl
theorem Kept.scf (hn : exec .scf s = .next t) : Q t := by
  refine k.runCpu ?_ h hn
  exact cpuFn_flags (fun _ => Flags.toByte_lowNibble _) (fun _ => rfl) fun _ => rfl
theorem Kept.ccf (hn : exec .ccf s = .next t) : Q t := by
  refine k.runCpu ?_ h hn
  exact cpuFn_flags (fun _ => Flags.toByte_lowNibble _) (fun _ => rfl) fun _ => rfl
theorem Kept.addSp {n8 : Byte} (hn : exec (.add_SP_e8 n8) s = .next t) : Q t := by
  refine k.runCpu ?_ h hn
  exact cpuFn_flags (fun _ => Flags.toByte_lowNibble _) (fun _ => rfl) fun _ => rfl
theorem Kept.ldHlSp {n8 : Byte} (hn : exec (.ld_HL_SP_e8 n8) s = .next t) : Q t := by
  refine k.runCpu ?_ h hn
  exact cpuFn_flags (fun _ => Flags.toByte_lowNibble _) (fun _ => rfl) fun _ => rfl
theorem Kept.ldSpHl (hn : exec .ld_SP_HL s = .next t) : Q t := by
  refine k.runCpu ?_ h hn
  exact cpuFn_plain (fun _ => rfl) (fun _ => rfl) fun _ => rfl
theorem Kept.rotateA {op : RotOp} (hn : Machine.rotateA op s = .next t) : Q t :=
  k.runCpu (cpuFn_modifyReg .a _ _) h hn

end

/-! ### Every instruction -/

theorem Kept.runLoadA {Q : State → Prop} (k : Kept Q) {s t : State} {len ticks : Nat} {a : State → Word} (h : Q s)
    (hn : Machine.runOp len ticks (fun u => Machine.loadA (a u) u) s = .next t) : Q t :=
  k.runOp (fun u hu => k.loadA (a u) hu) h hn

theorem Kept.runStoreA {Q : State → Prop} (k : Kept Q) {s t : State} {len ticks : Nat} {a : State → Word} (h : Q s)
    (hn : Machine.runOp len ticks (fun u => Machine.storeA (a u) u) s = .next t) : Q t :=
  k.runOp (fun u hu => k.storeA (a u) hu) h hn

/-- A predicate that is `Kept` is kept by every instruction, whether it goes through or stops. -/
theorem exec_keeps {Q : State → Prop} (k : Kept Q) {s t : State} (h : Q s) (i : Instr) :
    exec i s = .next t → Q t := by
  refine Instr.byShape (P := fun i => exec i s = .next t → Q t) (i := i)
    (ldRR := fun r _ hn => k.runCpu (cpuFn_setReg r _) h (exec_ldRR .. ▸ hn))
    (ldRImm := fun r v hn => k.runCpu (cpuFn_setReg r fun _ => v) h (exec_ldRImm .. ▸ hn))
    (ldRHl := fun r hn => k.runOp (fun _ hu => k.withHl (fun v => cpuFn_setReg r fun _ => v) hu) h (exec_ldRHl .. ▸ hn))
    (ldHlR := fun r hn => k.runOp (fun _ hu => k.writeByte _ _ hu) h (exec_ldHlR .. ▸ hn))
    (ldRpImm := fun p v hn => k.runCpu (cpuFn_setRp p fun _ => v) h (exec_ldRpImm .. ▸ hn))
    (pushRp2 := fun p hn => k.runOp (fun _ hu => k.push16 _ hu) h (exec_pushRp2 .. ▸ hn))
    (popRp2 := fun p hn => k.runOp (fun _ hu => Access.holds_andThen (k.pop16 hu) fun v _ _ h1 =>
      k.changed h1 (cpuFn_setRp2 p v _)) h (exec_popRp2 .. ▸ hn))
    (aluR := fun op r hn => k.runCpu (cpuFn_aluOnA op fun c => c.reg r) h (exec_aluR .. ▸ hn))
    (aluHl := fun op hn => k.runOp (fun _ hu => k.withHl (fun v => cpuFn_aluOnA op fun _ => v) hu) h
      (exec_aluHl .. ▸ hn))
    (aluImm := fun op v hn => k.runCpu (cpuFn_aluOnA op fun _ => v) h (exec_aluImm .. ▸ hn))
    (incR := fun r hn => k.runCpu (cpuFn_modifyReg r _ _) h (exec_incR .. ▸ hn))
    (decR := fun r hn => k.runCpu (cpuFn_modifyReg r _ _) h (exec_decR .. ▸ hn))
    (addHlRp := fun p hn => k.runCpu (cpuFn_setFlags (fun c => c.setHl (c.hl + c.rp p)) _ (fun _ => rfl) fun _ => rfl) h
      (exec_addHlRp .. ▸ hn))
    (incRp := fun p hn => k.runCpu (cpuFn_setRp p _) h (exec_incRp .. ▸ hn))
    (decRp := fun p hn => k.runCpu (cpuFn_setRp p _) h (exec_decRp .. ▸ hn))
    (rotR := fun op r hn => k.runCpu (cpuFn_modifyReg r _ _) h (exec_rotR .. ▸ hn))
    (rotHl := fun op hn => k.runOp (fun _ hu => k.modifyHl _ _ hu) h (exec_rotHl .. ▸ hn))
    (bitR := fun b r hn => k.runCpu (cpuFn_setFlags (fun c => c) _ (fun _ => rfl) fun _ => rfl) h (exec_bitR .. ▸ hn))
    (bitHl := fun b hn => k.runOp (fun _ hu => k.withHl
      (fun v => cpuFn_setFlags (fun c => c) _ (fun _ => rfl) fun _ => rfl) hu) h (exec_bitHl .. ▸ hn))
    (resR := fun b r hn => k.runCpu (cpuFn_modifyReg r _ _) h (exec_resR .. ▸ hn))
    (resHl := fun b hn => k.runOp (fun _ hu => k.modifyHl _ _ hu) h (exec_resHl .. ▸ hn))
    (setR := fun b r hn => k.runCpu (cpuFn_modifyReg r _ _) h (exec_setR .. ▸ hn))
    (setHl := fun b hn => k.runOp (fun _ hu => k.modifyHl _ _ hu) h (exec_setHl .. ▸ hn))
    (jpCc := fun cc v hn => k.runOp (fun _ hu => k.whenTaken cc _ (k.jumpTo _ hu) hu) h (exec_jpCc .. ▸ hn))
    (jrCc := fun cc v hn => k.runOp (fun _ hu => k.whenTaken cc _ (k.jumpRelative _ hu) hu) h (exec_jrCc .. ▸ hn))
    (callCc := fun cc v hn => k.runOp (fun _ hu => k.whenTaken cc _ (k.callTo _ hu) hu) h (exec_callCc .. ▸ hn))
    (retCc := fun cc hn => k.runOp (fun _ hu => k.whenTaken cc _ (k.returnToCaller hu) hu) h (exec_retCc .. ▸ hn))
    (rst := fun b hn => k.runOp (fun _ hu => k.callTo _ hu) h (exec_rst .. ▸ hn))
    (illegal := fun op hn => ?_)
    (nop := fun hn => k.nop h hn)
    (ld_atBC_A := fun hn => k.runStoreA (a := fun u => u.cpu.bc) h hn)
    (rlca := fun hn => k.rotateA (op := .rlc) h hn)
    (ld_atA16_SP := fun v hn => k.runOp (fun _ hu => k.writeWord _ _ hu) h hn)
    (ld_A_atBC := fun hn => k.runLoadA (a := fun u => u.cpu.bc) h hn)
    (rrca := fun hn => k.rotateA (op := .rrc) h hn)
    (stop := fun v hn => k.stopped h hn)
    (ld_atDE_A := fun hn => k.runStoreA (a := fun u => u.cpu.de) h hn)
    (rla := fun hn => k.rotateA (op := .rl) h hn)
    (jr_e8 := fun v hn => k.runOp (handler := Machine.jumpRelative v) (fun _ hu => k.jumpRelative v hu) h hn)
    (ld_A_atDE := fun hn => k.runLoadA (a := fun u => u.cpu.de) h hn)
    (rra := fun hn => k.rotateA (op := .rr) h hn)
    (ld_atHLI_A := fun hn => k.runOp (fun _ hu => k.thenMoveHl 1 (k.storeA _ hu)) h hn)
    (daa := fun hn => k.daa h hn)
    (ld_A_atHLI := fun hn => k.runOp (fun _ hu => k.thenMoveHl 1 (k.loadA _ hu)) h hn)
    (cpl := fun hn => k.cpl h hn)
    (ld_atHLD_A := fun hn => k.runOp (fun _ hu => k.thenMoveHl (-1) (k.storeA _ hu)) h hn)
    (inc_atHL := fun hn => k.runOp (fun _ hu => k.modifyHl _ _ hu) h hn)
    (dec_atHL := fun hn => k.runOp (fun _ hu => k.modifyHl _ _ hu) h hn)
    (ld_atHL_d8 := fun v hn => k.runOp (fun _ hu => k.writeByte _ _ hu) h hn)
    (scf := fun hn => k.scf h hn)
    (ld_A_atHLD := fun hn => k.runOp (fun _ hu => k.thenMoveHl (-1) (k.loadA _ hu)) h hn)
    (ccf := fun hn => k.ccf h hn)
    (halt := fun hn => k.halted h hn)
    (jp_a16 := fun v hn => k.runOp (fun _ hu => k.jumpTo v hu) h hn)
    (ret := fun hn => k.runOp (fun _ hu => k.returnToCaller hu) h hn)
    (call_a16 := fun v hn => k.runOp (fun _ hu => k.callTo v hu) h hn)
    (reti := fun hn => k.runOp (fun _ hu => k.returnFromInterrupt hu) h hn)
    (ldh_atA8_A := fun v hn => k.runStoreA (a := fun _ => highPage v) h hn)
    (ld_atC_A := fun hn => k.runStoreA (a := fun u => highPage u.cpu.c) h hn)
    (add_SP_e8 := fun v hn => k.addSp h hn)
    (jp_HL := fun hn => k.runOp (fun _ hu => k.jumpTo _ hu) h hn)
    (ld_atA16_A := fun v hn => k.runStoreA (a := fun _ => v) h hn)
    (ldh_A_atA8 := fun v hn => k.runLoadA (a := fun _ => highPage v) h hn)
    (ld_A_atC := fun hn => k.runLoadA (a := fun u => highPage u.cpu.c) h hn)
    (di := fun hn => k.di h hn)
    (ld_HL_SP_e8 := fun v hn => k.ldHlSp h hn)
    (ld_SP_HL := fun hn => k.ldSpHl h hn)
    (ld_A_atA16 := fun v hn => k.runLoadA (a := fun _ => v) h hn)
    (ei := fun hn => ?_)
  · rw [exec_illegal] at hn
    cases hn
    exact k.stop _ _ h
  · refine k.runOp (handler := enableInterrupts) (fun u hu => k.changed hu ?_) h hn
    unfold Cpu.enableInterrupts
    repeat' split
    all_goals exact .same rfl (le_refl _) rfl

end Sys2Proof.Machine
end

