-- ==== Sys2Proof/Laws/PerInstr.lean ====
section
/-! SUPPORT. One lemma per instruction: its encoding is as long as the decoder's length of its first byte (30 R120). -/
namespace Sys2Proof.Laws

/-- The encoding of an instruction is as long as its first byte says (30 R120, R122). -/
def EncodedLength.Statement (i : Instr) : Prop := (encode i).length = opLength ((encode i).headD 0)

theorem EncodedLength.nop : EncodedLength.Statement .nop := rfl
theorem EncodedLength.ld_BC_d16 (n16 : Word) : EncodedLength.Statement (.ld_BC_d16 n16) :=
  (by decide : 3 = opLength 0x01)
theorem EncodedLength.ld_atBC_A : EncodedLength.Statement .ld_atBC_A := rfl
theorem EncodedLength.inc_BC : EncodedLength.Statement .inc_BC := rfl
theorem EncodedLength.inc_B : EncodedLength.Statement .inc_B := rfl
theorem EncodedLength.dec_B : EncodedLength.Statement .dec_B := rfl
theorem EncodedLength.ld_B_d8 (n8 : Byte) : EncodedLength.Statement (.ld_B_d8 n8) :=
  (by decide : 2 = opLength 0x06)
theorem EncodedLength.rlca : EncodedLength.Statement .rlca := rfl
theorem EncodedLength.ld_atA16_SP (n16 : Word) : EncodedLength.Statement (.ld_atA16_SP n16) :=
  (by decide : 3 = opLength 0x08)
theorem EncodedLength.add_HL_BC : EncodedLength.Statement .add_HL_BC := rfl
theorem EncodedLength.ld_A_atBC : EncodedLength.Statement .ld_A_atBC := rfl
theorem EncodedLength.dec_BC : EncodedLength.Statement .dec_BC := rfl
theorem EncodedLength.inc_C : EncodedLength.Statement .inc_C := rfl
theorem EncodedLength.dec_C : EncodedLength.Statement .dec_C := rfl
theorem EncodedLength.ld_C_d8 (n8 : Byte) : EncodedLength.Statement (.ld_C_d8 n8) :=
  (by decide : 2 = opLength 0x0E)
theorem EncodedLength.rrca : EncodedLength.Statement .rrca := rfl
theorem EncodedLength.stop (n8 : Byte) : EncodedLength.Statement (.stop n8) :=
  (by decide : 2 = opLength 0x10)
theorem EncodedLength.ld_DE_d16 (n16 : Word) : EncodedLength.Statement (.ld_DE_d16 n16) :=
  (by decide : 3 = opLength 0x11)
theorem EncodedLength.ld_atDE_A : EncodedLength.Statement .ld_atDE_A := rfl
theorem EncodedLength.inc_DE : EncodedLength.Statement .inc_DE := rfl
theorem EncodedLength.inc_D : EncodedLength.Statement .inc_D := rfl
theorem EncodedLength.dec_D : EncodedLength.Statement .dec_D := rfl
theorem EncodedLength.ld_D_d8 (n8 : Byte) : EncodedLength.Statement (.ld_D_d8 n8) :=
  (by decide : 2 = opLength 0x16)
theorem EncodedLength.rla : EncodedLength.Statement .rla := rfl
theorem EncodedLength.jr_e8 (n8 : Byte) : EncodedLength.Statement (.jr_e8 n8) :=
  (by decide : 2 = opLength 0x18)
theorem EncodedLength.add_HL_DE : EncodedLength.Statement .add_HL_DE := rfl
theorem EncodedLength.ld_A_atDE : EncodedLength.Statement .ld_A_atDE := rfl
theorem EncodedLength.dec_DE : EncodedLength.Statement .dec_DE := rfl
theorem EncodedLength.inc_E : EncodedLength.Statement .inc_E := rfl
theorem EncodedLength.dec_E : EncodedLength.Statement .dec_E := rfl
theorem EncodedLength.ld_E_d8 (n8 : Byte) : EncodedLength.Statement (.ld_E_d8 n8) :=
  (by decide : 2 = opLength 0x1E)
theorem EncodedLength.rra : EncodedLength.Statement .rra := rfl
theorem EncodedLength.jr_NZ_e8 (n8 : Byte) : EncodedLength.Statement (.jr_NZ_e8 n8) :=
  (by decide : 2 = opLength 0x20)
theorem EncodedLength.ld_HL_d16 (n16 : Word) : EncodedLength.Statement (.ld_HL_d16 n16) :=
  (by decide : 3 = opLength 0x21)
theorem EncodedLength.ld_atHLI_A : EncodedLength.Statement .ld_atHLI_A := rfl
theorem EncodedLength.inc_HL : EncodedLength.Statement .inc_HL := rfl
theorem EncodedLength.inc_H : EncodedLength.Statement .inc_H := rfl
theorem EncodedLength.dec_H : EncodedLength.Statement .dec_H := rfl
theorem EncodedLength.ld_H_d8 (n8 : Byte) : EncodedLength.Statement (.ld_H_d8 n8) :=
  (by decide : 2 = opLength 0x26)
theorem EncodedLength.daa : EncodedLength.Statement .daa := rfl
theorem EncodedLength.jr_Z_e8 (n8 : Byte) : EncodedLength.Statement (.jr_Z_e8 n8) :=
  (by decide : 2 = opLength 0x28)
theorem EncodedLength.add_HL_HL : EncodedLength.Statement .add_HL_HL := rfl
theorem EncodedLength.ld_A_atHLI : EncodedLength.Statement .ld_A_atHLI := rfl
theorem EncodedLength.dec_HL : EncodedLength.Statement .dec_HL := rfl
theorem EncodedLength.inc_L : EncodedLength.Statement .inc_L := rfl
theorem EncodedLength.dec_L : EncodedLength.Statement .dec_L := rfl
theorem EncodedLength.ld_L_d8 (n8 : Byte) : EncodedLength.Statement (.ld_L_d8 n8) :=
  (by decide : 2 = opLength 0x2E)
theorem EncodedLength.cpl : EncodedLength.Statement .cpl := rfl
theorem EncodedLength.jr_NC_e8 (n8 : Byte) : EncodedLength.Statement (.jr_NC_e8 n8) :=
  (by decide : 2 = opLength 0x30)
theorem EncodedLength.ld_SP_d16 (n16 : Word) : EncodedLength.Statement (.ld_SP_d16 n16) :=
  (by decide : 3 = opLength 0x31)
theorem EncodedLength.ld_atHLD_A : EncodedLength.Statement .ld_atHLD_A := rfl
theorem EncodedLength.inc_SP : EncodedLength.Statement .inc_SP := rfl
theorem EncodedLength.inc_atHL : EncodedLength.Statement .inc_atHL := rfl
theorem EncodedLength.dec_atHL : EncodedLength.Statement .dec_atHL := rfl
theorem EncodedLength.ld_atHL_d8 (n8 : Byte) : EncodedLength.Statement (.ld_atHL_d8 n8) :=
  (by decide : 2 = opLength 0x36)
theorem EncodedLength.scf : EncodedLength.Statement .scf := rfl
theorem EncodedLength.jr_C_e8 (n8 : Byte) : EncodedLength.Statement (.jr_C_e8 n8) :=
  (by decide : 2 = opLength 0x38)
theorem EncodedLength.add_HL_SP : EncodedLength.Statement .add_HL_SP := rfl
theorem EncodedLength.ld_A_atHLD : EncodedLength.Statement .ld_A_atHLD := rfl
theorem EncodedLength.dec_SP : EncodedLength.Statement .dec_SP := rfl
theorem EncodedLength.inc_A : EncodedLength.Statement .inc_A := rfl
theorem EncodedLength.dec_A : EncodedLength.Statement .dec_A := rfl
theorem EncodedLength.ld_A_d8 (n8 : Byte) : EncodedLength.Statement (.ld_A_d8 n8) :=
  (by decide : 2 = opLength 0x3E)
theorem EncodedLength.ccf : EncodedLength.Statement .ccf := rfl
theorem EncodedLength.ld_B_B : EncodedLength.Statement .ld_B_B := rfl
theorem EncodedLength.ld_B_C : EncodedLength.Statement .ld_B_C := rfl
theorem EncodedLength.ld_B_D : EncodedLength.Statement .ld_B_D := rfl
theorem EncodedLength.ld_B_E : EncodedLength.Statement .ld_B_E := rfl
theorem EncodedLength.ld_B_H : EncodedLength.Statement .ld_B_H := rfl
theorem EncodedLength.ld_B_L : EncodedLength.Statement .ld_B_L := rfl
theorem EncodedLength.ld_B_atHL : EncodedLength.Statement .ld_B_atHL := rfl
theorem EncodedLength.ld_B_A : EncodedLength.Statement .ld_B_A := rfl
theorem EncodedLength.ld_C_B : EncodedLength.Statement .ld_C_B := rfl
theorem EncodedLength.ld_C_C : EncodedLength.Statement .ld_C_C := rfl
theorem EncodedLength.ld_C_D : EncodedLength.Statement .ld_C_D := rfl
theorem EncodedLength.ld_C_E : EncodedLength.Statement .ld_C_E := rfl
theorem EncodedLength.ld_C_H : EncodedLength.Statement .ld_C_H := rfl
theorem EncodedLength.ld_C_L : EncodedLength.Statement .ld_C_L := rfl
theorem EncodedLength.ld_C_atHL : EncodedLength.Statement .ld_C_atHL := rfl
theorem EncodedLength.ld_C_A : EncodedLength.Statement .ld_C_A := rfl
theorem EncodedLength.ld_D_B : EncodedLength.Statement .ld_D_B := rfl
theorem EncodedLength.ld_D_C : EncodedLength.Statement .ld_D_C := rfl
theorem EncodedLength.ld_D_D : EncodedLength.Statement .ld_D_D := rfl
theorem EncodedLength.ld_D_E : EncodedLength.Statement .ld_D_E := rfl
theorem EncodedLength.ld_D_H : EncodedLength.Statement .ld_D_H := rfl
theorem EncodedLength.ld_D_L : EncodedLength.Statement .ld_D_L := rfl
theorem EncodedLength.ld_D_atHL : EncodedLength.Statement .ld_D_atHL := rfl
theorem EncodedLength.ld_D_A : EncodedLength.Statement .ld_D_A := rfl
theorem EncodedLength.ld_E_B : EncodedLength.Statement .ld_E_B := rfl
theorem EncodedLength.ld_E_C : EncodedLength.Statement .ld_E_C := rfl
theorem EncodedLength.ld_E_D : EncodedLength.Statement .ld_E_D := rfl
theorem EncodedLength.ld_E_E : EncodedLength.Statement .ld_E_E := rfl
theorem EncodedLength.ld_E_H : EncodedLength.Statement .ld_E_H := rfl
theorem EncodedLength.ld_E_L : EncodedLength.Statement .ld_E_L := rfl
theorem EncodedLength.ld_E_atHL : EncodedLength.Statement .ld_E_atHL := rfl
theorem EncodedLength.ld_E_A : EncodedLength.Statement .ld_E_A := rfl
theorem EncodedLength.ld_H_B : EncodedLength.Statement .ld_H_B := rfl
theorem EncodedLength.ld_H_C : EncodedLength.Statement .ld_H_C := rfl
theorem EncodedLength.ld_H_D : EncodedLength.Statement .ld_H_D := rfl
theorem EncodedLength.ld_H_E : EncodedLength.Statement .ld_H_E := rfl
theorem EncodedLength.ld_H_H : EncodedLength.Statement .ld_H_H := rfl
theorem EncodedLength.ld_H_L : EncodedLength.Statement .ld_H_L := rfl
theorem EncodedLength.ld_H_atHL : EncodedLength.Statement .ld_H_atHL := rfl
theorem EncodedLength.ld_H_A : EncodedLength.Statement .ld_H_A := rfl
theorem EncodedLength.ld_L_B : EncodedLength.Statement .ld_L_B := rfl
theorem EncodedLength.ld_L_C : EncodedLength.Statement .ld_L_C := rfl
theorem EncodedLength.ld_L_D : EncodedLength.Statement .ld_L_D := rfl
theorem EncodedLength.ld_L_E : EncodedLength.Statement .ld_L_E := rfl
theorem EncodedLength.ld_L_H : EncodedLength.Statement .ld_L_H := rfl
theorem EncodedLength.ld_L_L : EncodedLength.Statement .ld_L_L := rfl
theorem EncodedLength.ld_L_atHL : EncodedLength.Statement .ld_L_atHL := rfl
theorem EncodedLength.ld_L_A : EncodedLength.Statement .ld_L_A := rfl
theorem EncodedLength.ld_atHL_B : EncodedLength.Statement .ld_atHL_B := rfl
theorem EncodedLength.ld_atHL_C : EncodedLength.Statement .ld_atHL_C := rfl
theorem EncodedLength.ld_atHL_D : EncodedLength.Statement .ld_atHL_D := rfl
theorem EncodedLength.ld_atHL_E : EncodedLength.Statement .ld_atHL_E := rfl
theorem EncodedLength.ld_atHL_H : EncodedLength.Statement .ld_atHL_H := rfl
theorem EncodedLength.ld_atHL_L : EncodedLength.Statement .ld_atHL_L := rfl
theorem EncodedLength.halt : EncodedLength.Statement .halt := rfl
theorem EncodedLength.ld_atHL_A : EncodedLength.Statement .ld_atHL_A := rfl
theorem EncodedLength.ld_A_B : EncodedLength.Statement .ld_A_B := rfl
theorem EncodedLength.ld_A_C : EncodedLength.Statement .ld_A_C := rfl
theorem EncodedLength.ld_A_D : EncodedLength.Statement .ld_A_D := rfl
theorem EncodedLength.ld_A_E : EncodedLength.Statement .ld_A_E := rfl
theorem EncodedLength.ld_A_H : EncodedLength.Statement .ld_A_H := rfl
theorem EncodedLength.ld_A_L : EncodedLength.Statement .ld_A_L := rfl
theorem EncodedLength.ld_A_atHL : EncodedLength.Statement .ld_A_atHL := rfl
theorem EncodedLength.ld_A_A : EncodedLength.Statement .ld_A_A := rfl
theorem EncodedLength.add_A_B : EncodedLength.Statement .add_A_B := rfl
theorem EncodedLength.add_A_C : EncodedLength.Statement .add_A_C := rfl
theorem EncodedLength.add_A_D : EncodedLength.Statement .add_A_D := rfl
theorem EncodedLength.add_A_E : EncodedLength.Statement .add_A_E := rfl
theorem EncodedLength.add_A_H : EncodedLength.Statement .add_A_H := rfl
theorem EncodedLength.add_A_L : EncodedLength.Statement .add_A_L := rfl
theorem EncodedLength.add_A_atHL : EncodedLength.Statement .add_A_atHL := rfl
theorem EncodedLength.add_A_A : EncodedLength.Statement .add_A_A := rfl
theorem EncodedLength.adc_A_B : EncodedLength.Statement .adc_A_B := rfl
theorem EncodedLength.adc_A_C : EncodedLength.Statement .adc_A_C := rfl
theorem EncodedLength.adc_A_D : EncodedLength.Statement .adc_A_D := rfl
theorem EncodedLength.adc_A_E : EncodedLength.Statement .adc_A_E := rfl
theorem EncodedLength.adc_A_H : EncodedLength.Statement .adc_A_H := rfl
theorem EncodedLength.adc_A_L : EncodedLength.Statement .adc_A_L := rfl
theorem EncodedLength.adc_A_atHL : EncodedLength.Statement .adc_A_atHL := rfl
theorem EncodedLength.adc_A_A : EncodedLength.Statement .adc_A_A := rfl
theorem EncodedLength.sub_B : EncodedLength.Statement .sub_B := rfl
theorem EncodedLength.sub_C : EncodedLength.Statement .sub_C := rfl
theorem EncodedLength.sub_D : EncodedLength.Statement .sub_D := rfl
theorem EncodedLength.sub_E : EncodedLength.Statement .sub_E := rfl
theorem EncodedLength.sub_H : EncodedLength.Statement .sub_H := rfl
theorem EncodedLength.sub_L : EncodedLength.Statement .sub_L := rfl
theorem EncodedLength.sub_atHL : EncodedLength.Statement .sub_atHL := rfl
theorem EncodedLength.sub_A : EncodedLength.Statement .sub_A := rfl
theorem EncodedLength.sbc_A_B : EncodedLength.Statement .sbc_A_B := rfl
theorem EncodedLength.sbc_A_C : EncodedLength.Statement .sbc_A_C := rfl
theorem EncodedLength.sbc_A_D : EncodedLength.Statement .sbc_A_D := rfl
theorem EncodedLength.sbc_A_E : EncodedLength.Statement .sbc_A_E := rfl
theorem EncodedLength.sbc_A_H : EncodedLength.Statement .sbc_A_H := rfl
theorem EncodedLength.sbc_A_L : EncodedLength.Statement .sbc_A_L := rfl
theorem EncodedLength.sbc_A_atHL : EncodedLength.Statement .sbc_A_atHL := rfl
theorem EncodedLength.sbc_A_A : EncodedLength.Statement .sbc_A_A := rfl
theorem EncodedLength.and_B : EncodedLength.Statement .and_B := rfl
theorem EncodedLength.and_C : EncodedLength.Statement .and_C := rfl
theorem EncodedLength.and_D : EncodedLength.Statement .and_D := rfl
theorem EncodedLength.and_E : EncodedLength.Statement .and_E := rfl
theorem EncodedLength.and_H : EncodedLength.Statement .and_H := rfl
theorem EncodedLength.and_L : EncodedLength.Statement .and_L := rfl
theorem EncodedLength.and_atHL : EncodedLength.Statement .and_atHL := rfl
theorem EncodedLength.and_A : EncodedLength.Statement .and_A := rfl
theorem EncodedLength.xor_B : EncodedLength.Statement .xor_B := rfl
theorem EncodedLength.xor_C : EncodedLength.Statement .xor_C := rfl
theorem EncodedLength.xor_D : EncodedLength.Statement .xor_D := rfl
theorem EncodedLength.xor_E : EncodedLength.Statement .xor_E := rfl
theorem EncodedLength.xor_H : EncodedLength.Statement .xor_H := rfl
theorem EncodedLength.xor_L : EncodedLength.Statement .xor_L := rfl
theorem EncodedLength.xor_atHL : EncodedLength.Statement .xor_atHL := rfl
theorem EncodedLength.xor_A : EncodedLength.Statement .xor_A := rfl
theorem EncodedLength.or_B : EncodedLength.Statement .or_B := rfl
theorem EncodedLength.or_C : EncodedLength.Statement .or_C := rfl
theorem EncodedLength.or_D : EncodedLength.Statement .or_D := rfl
theorem EncodedLength.or_E : EncodedLength.Statement .or_E := rfl
theorem EncodedLength.or_H : EncodedLength.Statement .or_H := rfl
theorem EncodedLength.or_L : EncodedLength.Statement .or_L := rfl
theorem EncodedLength.or_atHL : EncodedLength.Statement .or_atHL := rfl
theorem EncodedLength.or_A : EncodedLength.Statement .or_A := rfl
theorem EncodedLength.cp_B : EncodedLength.Statement .cp_B := rfl
theorem EncodedLength.cp_C : EncodedLength.Statement .cp_C := rfl
theorem EncodedLength.cp_D : EncodedLength.Statement .cp_D := rfl
theorem EncodedLength.cp_E : EncodedLength.Statement .cp_E := rfl
theorem EncodedLength.cp_H : EncodedLength.Statement .cp_H := rfl
theorem EncodedLength.cp_L : EncodedLength.Statement .cp_L := rfl
theorem EncodedLength.cp_atHL : EncodedLength.Statement .cp_atHL := rfl
theorem EncodedLength.cp_A : EncodedLength.Statement .cp_A := rfl
theorem EncodedLength.ret_NZ : EncodedLength.Statement .ret_NZ := rfl
theorem EncodedLength.pop_BC : EncodedLength.Statement .pop_BC := rfl
theorem EncodedLength.jp_NZ_a16 (n16 : Word) : EncodedLength.Statement (.jp_NZ_a16 n16) :=
  (by decide : 3 = opLength 0xC2)
theorem EncodedLength.jp_a16 (n16 : Word) : EncodedLength.Statement (.jp_a16 n16) :=
  (by decide : 3 = opLength 0xC3)
theorem EncodedLength.call_NZ_a16 (n16 : Word) : EncodedLength.Statement (.call_NZ_a16 n16) :=
  (by decide : 3 = opLength 0xC4)
theorem EncodedLength.push_BC : EncodedLength.Statement .push_BC := rfl
theorem EncodedLength.add_A_d8 (n8 : Byte) : EncodedLength.Statement (.add_A_d8 n8) :=
  (by decide : 2 = opLength 0xC6)
theorem EncodedLength.rst_00 : EncodedLength.Statement .rst_00 := rfl
theorem EncodedLength.ret_Z : EncodedLength.Statement .ret_Z := rfl
theorem EncodedLength.ret : EncodedLength.Statement .ret := rfl
theorem EncodedLength.jp_Z_a16 (n16 : Word) : EncodedLength.Statement (.jp_Z_a16 n16) :=
  (by decide : 3 = opLength 0xCA)
theorem EncodedLength.call_Z_a16 (n16 : Word) : EncodedLength.Statement (.call_Z_a16 n16) :=
  (by decide : 3 = opLength 0xCC)
theorem EncodedLength.call_a16 (n16 : Word) : EncodedLength.Statement (.call_a16 n16) :=
  (by decide : 3 = opLength 0xCD)
theorem EncodedLength.adc_A_d8 (n8 : Byte) : EncodedLength.Statement (.adc_A_d8 n8) :=
  (by decide : 2 = opLength 0xCE)
theorem EncodedLength.rst_08 : EncodedLength.Statement .rst_08 := rfl
theorem EncodedLength.ret_NC : EncodedLength.Statement .ret_NC := rfl
theorem EncodedLength.pop_DE : EncodedLength.Statement .pop_DE := rfl
theorem EncodedLength.jp_NC_a16 (n16 : Word) : EncodedLength.Statement (.jp_NC_a16 n16) :=
  (by decide : 3 = opLength 0xD2)
theorem EncodedLength.illegal_D3 : EncodedLength.Statement .illegal_D3 := rfl
theorem EncodedLength.call_NC_a16 (n16 : Word) : EncodedLength.Statement (.call_NC_a16 n16) :=
  (by decide : 3 = opLength 0xD4)
theorem EncodedLength.push_DE : EncodedLength.Statement .push_DE := rfl
theorem EncodedLength.sub_d8 (n8 : Byte) : EncodedLength.Statement (.sub_d8 n8) :=
  (by decide : 2 = opLength 0xD6)
theorem EncodedLength.rst_10 : EncodedLength.Statement .rst_10 := rfl
theorem EncodedLength.ret_C : EncodedLength.Statement .ret_C := rfl
theorem EncodedLength.reti : EncodedLength.Statement .reti := rfl
theorem EncodedLength.jp_C_a16 (n16 : Word) : EncodedLength.Statement (.jp_C_a16 n16) :=
  (by decide : 3 = opLength 0xDA)
theorem EncodedLength.illegal_DB : EncodedLength.Statement .illegal_DB := rfl
theorem EncodedLength.call_C_a16 (n16 : Word) : EncodedLength.Statement (.call_C_a16 n16) :=
  (by decide : 3 = opLength 0xDC)
theorem EncodedLength.illegal_DD : EncodedLength.Statement .illegal_DD := rfl
theorem EncodedLength.sbc_A_d8 (n8 : Byte) : EncodedLength.Statement (.sbc_A_d8 n8) :=
  (by decide : 2 = opLength 0xDE)
theorem EncodedLength.rst_18 : EncodedLength.Statement .rst_18 := rfl
theorem EncodedLength.ldh_atA8_A (n8 : Byte) : EncodedLength.Statement (.ldh_atA8_A n8) :=
  (by decide : 2 = opLength 0xE0)
theorem EncodedLength.pop_HL : EncodedLength.Statement .pop_HL := rfl
theorem EncodedLength.ld_atC_A : EncodedLength.Statement .ld_atC_A := rfl
theorem EncodedLength.illegal_E3 : EncodedLength.Statement .illegal_E3 := rfl
theorem EncodedLength.illegal_E4 : EncodedLength.Statement .illegal_E4 := rfl
theorem EncodedLength.push_HL : EncodedLength.Statement .push_HL := rfl
theorem EncodedLength.and_d8 (n8 : Byte) : EncodedLength.Statement (.and_d8 n8) :=
  (by decide : 2 = opLength 0xE6)
theorem EncodedLength.rst_20 : EncodedLength.Statement .rst_20 := rfl
theorem EncodedLength.add_SP_e8 (n8 : Byte) : EncodedLength.Statement (.add_SP_e8 n8) :=
  (by decide : 2 = opLength 0xE8)
theorem EncodedLength.jp_HL : EncodedLength.Statement .jp_HL := rfl
theorem EncodedLength.ld_atA16_A (n16 : Word) : EncodedLength.Statement (.ld_atA16_A n16) :=
  (by decide : 3 = opLength 0xEA)
theorem EncodedLength.illegal_EB : EncodedLength.Statement .illegal_EB := rfl
theorem EncodedLength.illegal_EC : EncodedLength.Statement .illegal_EC := rfl
theorem EncodedLength.illegal_ED : EncodedLength.Statement .illegal_ED := rfl
theorem EncodedLength.xor_d8 (n8 : Byte) : EncodedLength.Statement (.xor_d8 n8) :=
  (by decide : 2 = opLength 0xEE)
theorem EncodedLength.rst_28 : EncodedLength.Statement .rst_28 := rfl
theorem EncodedLength.ldh_A_atA8 (n8 : Byte) : EncodedLength.Statement (.ldh_A_atA8 n8) :=
  (by decide : 2 = opLength 0xF0)
theorem EncodedLength.pop_AF : EncodedLength.Statement .pop_AF := rfl
theorem EncodedLength.ld_A_atC : EncodedLength.Statement .ld_A_atC := rfl
theorem EncodedLength.di : EncodedLength.Statement .di := rfl
theorem EncodedLength.illegal_F4 : EncodedLength.Statement .illegal_F4 := rfl
theorem EncodedLength.push_AF : EncodedLength.Statement .push_AF := rfl
theorem EncodedLength.or_d8 (n8 : Byte) : EncodedLength.Statement (.or_d8 n8) :=
  (by decide : 2 = opLength 0xF6)
theorem EncodedLength.rst_30 : EncodedLength.Statement .rst_30 := rfl
theorem EncodedLength.ld_HL_SP_e8 (n8 : Byte) : EncodedLength.Statement (.ld_HL_SP_e8 n8) :=
  (by decide : 2 = opLength 0xF8)
theorem EncodedLength.ld_SP_HL : EncodedLength.Statement .ld_SP_HL := rfl
theorem EncodedLength.ld_A_atA16 (n16 : Word) : EncodedLength.Statement (.ld_A_atA16 n16) :=
  (by decide : 3 = opLength 0xFA)
theorem EncodedLength.ei : EncodedLength.Statement .ei := rfl
theorem EncodedLength.illegal_FC : EncodedLength.Statement .illegal_FC := rfl
theorem EncodedLength.illegal_FD : EncodedLength.Statement .illegal_FD := rfl
theorem EncodedLength.cp_d8 (n8 : Byte) : EncodedLength.Statement (.cp_d8 n8) :=
  (by decide : 2 = opLength 0xFE)
theorem EncodedLength.rst_38 : EncodedLength.Statement .rst_38 := rfl
theorem EncodedLength.rlc_B : EncodedLength.Statement .rlc_B := rfl
theorem EncodedLength.rlc_C : EncodedLength.Statement .rlc_C := rfl
theorem EncodedLength.rlc_D : EncodedLength.Statement .rlc_D := rfl
theorem EncodedLength.rlc_E : EncodedLength.Statement .rlc_E := rfl
theorem EncodedLength.rlc_H : EncodedLength.Statement .rlc_H := rfl
theorem EncodedLength.rlc_L : EncodedLength.Statement .rlc_L := rfl
theorem EncodedLength.rlc_atHL : EncodedLength.Statement .rlc_atHL := rfl
theorem EncodedLength.rlc_A : EncodedLength.Statement .rlc_A := rfl
theorem EncodedLength.rrc_B : EncodedLength.Statement .rrc_B := rfl
theorem EncodedLength.rrc_C : EncodedLength.Statement .rrc_C := rfl
theorem EncodedLength.rrc_D : EncodedLength.Statement .rrc_D := rfl
theorem EncodedLength.rrc_E : EncodedLength.Statement .rrc_E := rfl
theorem EncodedLength.rrc_H : EncodedLength.Statement .rrc_H := rfl
theorem EncodedLength.rrc_L : EncodedLength.Statement .rrc_L := rfl
theorem EncodedLength.rrc_atHL : EncodedLength.Statement .rrc_atHL := rfl
theorem EncodedLength.rrc_A : EncodedLength.Statement .rrc_A := rfl
theorem EncodedLength.rl_B : EncodedLength.Statement .rl_B := rfl
theorem EncodedLength.rl_C : EncodedLength.Statement .rl_C := rfl
theorem EncodedLength.rl_D : EncodedLength.Statement .rl_D := rfl
theorem EncodedLength.rl_E : EncodedLength.Statement .rl_E := rfl
theorem EncodedLength.rl_H : EncodedLength.Statement .rl_H := rfl
theorem EncodedLength.rl_L : EncodedLength.Statement .rl_L := rfl
theorem EncodedLength.rl_atHL : EncodedLength.Statement .rl_atHL := rfl
theorem EncodedLength.rl_A : EncodedLength.Statement .rl_A := rfl
theorem EncodedLength.rr_B : EncodedLength.Statement .rr_B := rfl
theorem EncodedLength.rr_C : EncodedLength.Statement .rr_C := rfl
theorem EncodedLength.rr_D : EncodedLength.Statement .rr_D := rfl
theorem EncodedLength.rr_E : EncodedLength.Statement .rr_E := rfl
theorem EncodedLength.rr_H : EncodedLength.Statement .rr_H := rfl
theorem EncodedLength.rr_L : EncodedLength.Statement .rr_L := rfl
theorem EncodedLength.rr_atHL : EncodedLength.Statement .rr_atHL := rfl
theorem EncodedLength.rr_A : EncodedLength.Statement .rr_A := rfl
theorem EncodedLength.sla_B : EncodedLength.Statement .sla_B := rfl
theorem EncodedLength.sla_C : EncodedLength.Statement .sla_C := rfl
theorem EncodedLength.sla_D : EncodedLength.Statement .sla_D := rfl
theorem EncodedLength.sla_E : EncodedLength.Statement .sla_E := rfl
theorem EncodedLength.sla_H : EncodedLength.Statement .sla_H := rfl
theorem EncodedLength.sla_L : EncodedLength.Statement .sla_L := rfl
theorem EncodedLength.sla_atHL : EncodedLength.Statement .sla_atHL := rfl
theorem EncodedLength.sla_A : EncodedLength.Statement .sla_A := rfl
theorem EncodedLength.sra_B : EncodedLength.Statement .sra_B := rfl
theorem EncodedLength.sra_C : EncodedLength.Statement .sra_C := rfl
theorem EncodedLength.sra_D : EncodedLength.Statement .sra_D := rfl
theorem EncodedLength.sra_E : EncodedLength.Statement .sra_E := rfl
theorem EncodedLength.sra_H : EncodedLength.Statement .sra_H := rfl
theorem EncodedLength.sra_L : EncodedLength.Statement .sra_L := rfl
theorem EncodedLength.sra_atHL : EncodedLength.Statement .sra_atHL := rfl
theorem EncodedLength.sra_A : EncodedLength.Statement .sra_A := rfl
theorem EncodedLength.swap_B : EncodedLength.Statement .swap_B := rfl
theorem EncodedLength.swap_C : EncodedLength.Statement .swap_C := rfl
theorem EncodedLength.swap_D : EncodedLength.Statement .swap_D := rfl
theorem EncodedLength.swap_E : EncodedLength.Statement .swap_E := rfl
theorem EncodedLength.swap_H : EncodedLength.Statement .swap_H := rfl
theorem EncodedLength.swap_L : EncodedLength.Statement .swap_L := rfl
theorem EncodedLength.swap_atHL : EncodedLength.Statement .swap_atHL := rfl
theorem EncodedLength.swap_A : EncodedLength.Statement .swap_A := rfl
theorem EncodedLength.srl_B : EncodedLength.Statement .srl_B := rfl
theorem EncodedLength.srl_C : EncodedLength.Statement .srl_C := rfl
theorem EncodedLength.srl_D : EncodedLength.Statement .srl_D := rfl
theorem EncodedLength.srl_E : EncodedLength.Statement .srl_E := rfl
theorem EncodedLength.srl_H : EncodedLength.Statement .srl_H := rfl
theorem EncodedLength.srl_L : EncodedLength.Statement .srl_L := rfl
theorem EncodedLength.srl_atHL : EncodedLength.Statement .srl_atHL := rfl
theorem EncodedLength.srl_A : EncodedLength.Statement .srl_A := rfl
theorem EncodedLength.bit_0_B : EncodedLength.Statement .bit_0_B := rfl
theorem EncodedLength.bit_0_C : EncodedLength.Statement .bit_0_C := rfl
theorem EncodedLength.bit_0_D : EncodedLength.Statement .bit_0_D := rfl
theorem EncodedLength.bit_0_E : EncodedLength.Statement .bit_0_E := rfl
theorem EncodedLength.bit_0_H : EncodedLength.Statement .bit_0_H := rfl
theorem EncodedLength.bit_0_L : EncodedLength.Statement .bit_0_L := rfl
theorem EncodedLength.bit_0_atHL : EncodedLength.Statement .bit_0_atHL := rfl
theorem EncodedLength.bit_0_A : EncodedLength.Statement .bit_0_A := rfl
theorem EncodedLength.bit_1_B : EncodedLength.Statement .bit_1_B := rfl
theorem EncodedLength.bit_1_C : EncodedLength.Statement .bit_1_C := rfl
theorem EncodedLength.bit_1_D : EncodedLength.Statement .bit_1_D := rfl
theorem EncodedLength.bit_1_E : EncodedLength.Statement .bit_1_E := rfl
theorem EncodedLength.bit_1_H : EncodedLength.Statement .bit_1_H := rfl
theorem EncodedLength.bit_1_L : EncodedLength.Statement .bit_1_L := rfl
theorem EncodedLength.bit_1_atHL : EncodedLength.Statement .bit_1_atHL := rfl
theorem EncodedLength.bit_1_A : EncodedLength.Statement .bit_1_A := rfl
theorem EncodedLength.bit_2_B : EncodedLength.Statement .bit_2_B := rfl
theorem EncodedLength.bit_2_C : EncodedLength.Statement .bit_2_C := rfl
theorem EncodedLength.bit_2_D : EncodedLength.Statement .bit_2_D := rfl
theorem EncodedLength.bit_2_E : EncodedLength.Statement .bit_2_E := rfl
theorem EncodedLength.bit_2_H : EncodedLength.Statement .bit_2_H := rfl
theorem EncodedLength.bit_2_L : EncodedLength.Statement .bit_2_L := rfl
theorem EncodedLength.bit_2_atHL : EncodedLength.Statement .bit_2_atHL := rfl
theorem EncodedLength.bit_2_A : EncodedLength.Statement .bit_2_A := rfl
theorem EncodedLength.bit_3_B : EncodedLength.Statement .bit_3_B := rfl
theorem EncodedLength.bit_3_C : EncodedLength.Statement .bit_3_C := rfl
theorem EncodedLength.bit_3_D : EncodedLength.Statement .bit_3_D := rfl
theorem EncodedLength.bit_3_E : EncodedLength.Statement .bit_3_E := rfl
theorem EncodedLength.bit_3_H : EncodedLength.Statement .bit_3_H := rfl
theorem EncodedLength.bit_3_L : EncodedLength.Statement .bit_3_L := rfl
theorem EncodedLength.bit_3_atHL : EncodedLength.Statement .bit_3_atHL := rfl
theorem EncodedLength.bit_3_A : EncodedLength.Statement .bit_3_A := rfl
theorem EncodedLength.bit_4_B : EncodedLength.Statement .bit_4_B := rfl
theorem EncodedLength.bit_4_C : EncodedLength.Statement .bit_4_C := rfl
theorem EncodedLength.bit_4_D : EncodedLength.Statement .bit_4_D := rfl
theorem EncodedLength.bit_4_E : EncodedLength.Statement .bit_4_E := rfl
theorem EncodedLength.bit_4_H : EncodedLength.Statement .bit_4_H := rfl
theorem EncodedLength.bit_4_L : EncodedLength.Statement .bit_4_L := rfl
theorem EncodedLength.bit_4_atHL : EncodedLength.Statement .bit_4_atHL := rfl
theorem EncodedLength.bit_4_A : EncodedLength.Statement .bit_4_A := rfl
theorem EncodedLength.bit_5_B : EncodedLength.Statement .bit_5_B := rfl
theorem EncodedLength.bit_5_C : EncodedLength.Statement .bit_5_C := rfl
theorem EncodedLength.bit_5_D : EncodedLength.Statement .bit_5_D := rfl
theorem EncodedLength.bit_5_E : EncodedLength.Statement .bit_5_E := rfl
theorem EncodedLength.bit_5_H : EncodedLength.Statement .bit_5_H := rfl
theorem EncodedLength.bit_5_L : EncodedLength.Statement .bit_5_L := rfl
theorem EncodedLength.bit_5_atHL : EncodedLength.Statement .bit_5_atHL := rfl
theorem EncodedLength.bit_5_A : EncodedLength.Statement .bit_5_A := rfl
theorem EncodedLength.bit_6_B : EncodedLength.Statement .bit_6_B := rfl
theorem EncodedLength.bit_6_C : EncodedLength.Statement .bit_6_C := rfl
theorem EncodedLength.bit_6_D : EncodedLength.Statement .bit_6_D := rfl
theorem EncodedLength.bit_6_E : EncodedLength.Statement .bit_6_E := rfl
theorem EncodedLength.bit_6_H : EncodedLength.Statement .bit_6_H := rfl
theorem EncodedLength.bit_6_L : EncodedLength.Statement .bit_6_L := rfl
theorem EncodedLength.bit_6_atHL : EncodedLength.Statement .bit_6_atHL := rfl
theorem EncodedLength.bit_6_A : EncodedLength.Statement .bit_6_A := rfl
theorem EncodedLength.bit_7_B : EncodedLength.Statement .bit_7_B := rfl
theorem EncodedLength.bit_7_C : EncodedLength.Statement .bit_7_C := rfl
theorem EncodedLength.bit_7_D : EncodedLength.Statement .bit_7_D := rfl
theorem EncodedLength.bit_7_E : EncodedLength.Statement .bit_7_E := rfl
theorem EncodedLength.bit_7_H : EncodedLength.Statement .bit_7_H := rfl
theorem EncodedLength.bit_7_L : EncodedLength.Statement .bit_7_L := rfl
theorem EncodedLength.bit_7_atHL : EncodedLength.Statement .bit_7_atHL := rfl
theorem EncodedLength.bit_7_A : EncodedLength.Statement .bit_7_A := rfl
theorem EncodedLength.res_0_B : EncodedLength.Statement .res_0_B := rfl
theorem EncodedLength.res_0_C : EncodedLength.Statement .res_0_C := rfl
theorem EncodedLength.res_0_D : EncodedLength.Statement .res_0_D := rfl
theorem EncodedLength.res_0_E : EncodedLength.Statement .res_0_E := rfl
theorem EncodedLength.res_0_H : EncodedLength.Statement .res_0_H := rfl
theorem EncodedLength.res_0_L : EncodedLength.Statement .res_0_L := rfl
theorem EncodedLength.res_0_atHL : EncodedLength.Statement .res_0_atHL := rfl
theorem EncodedLength.res_0_A : EncodedLength.Statement .res_0_A := rfl
theorem EncodedLength.res_1_B : EncodedLength.Statement .res_1_B := rfl
theorem EncodedLength.res_1_C : EncodedLength.Statement .res_1_C := rfl
theorem EncodedLength.res_1_D : EncodedLength.Statement .res_1_D := rfl
theorem EncodedLength.res_1_E : EncodedLength.Statement .res_1_E := rfl
theorem EncodedLength.res_1_H : EncodedLength.Statement .res_1_H := rfl
theorem EncodedLength.res_1_L : EncodedLength.Statement .res_1_L := rfl
theorem EncodedLength.res_1_atHL : EncodedLength.Statement .res_1_atHL := rfl
theorem EncodedLength.res_1_A : EncodedLength.Statement .res_1_A := rfl
theorem EncodedLength.res_2_B : EncodedLength.Statement .res_2_B := rfl
theorem EncodedLength.res_2_C : EncodedLength.Statement .res_2_C := rfl
theorem EncodedLength.res_2_D : EncodedLength.Statement .res_2_D := rfl
theorem EncodedLength.res_2_E : EncodedLength.Statement .res_2_E := rfl
theorem EncodedLength.res_2_H : EncodedLength.Statement .res_2_H := rfl
theorem EncodedLength.res_2_L : EncodedLength.Statement .res_2_L := rfl
theorem EncodedLength.res_2_atHL : EncodedLength.Statement .res_2_atHL := rfl
theorem EncodedLength.res_2_A : EncodedLength.Statement .res_2_A := rfl
theorem EncodedLength.res_3_B : EncodedLength.Statement .res_3_B := rfl
theorem EncodedLength.res_3_C : EncodedLength.Statement .res_3_C := rfl
theorem EncodedLength.res_3_D : EncodedLength.Statement .res_3_D := rfl
theorem EncodedLength.res_3_E : EncodedLength.Statement .res_3_E := rfl
theorem EncodedLength.res_3_H : EncodedLength.Statement .res_3_H := rfl
theorem EncodedLength.res_3_L : EncodedLength.Statement .res_3_L := rfl
theorem EncodedLength.res_3_atHL : EncodedLength.Statement .res_3_atHL := rfl
theorem EncodedLength.res_3_A : EncodedLength.Statement .res_3_A := rfl
theorem EncodedLength.res_4_B : EncodedLength.Statement .res_4_B := rfl
theorem EncodedLength.res_4_C : EncodedLength.Statement .res_4_C := rfl
theorem EncodedLength.res_4_D : EncodedLength.Statement .res_4_D := rfl
theorem EncodedLength.res_4_E : EncodedLength.Statement .res_4_E := rfl
theorem EncodedLength.res_4_H : EncodedLength.Statement .res_4_H := rfl
theorem EncodedLength.res_4_L : EncodedLength.Statement .res_4_L := rfl
theorem EncodedLength.res_4_atHL : EncodedLength.Statement .res_4_atHL := rfl
theorem EncodedLength.res_4_A : EncodedLength.Statement .res_4_A := rfl
theorem EncodedLength.res_5_B : EncodedLength.Statement .res_5_B := rfl
theorem EncodedLength.res_5_C : EncodedLength.Statement .res_5_C := rfl
theorem EncodedLength.res_5_D : EncodedLength.Statement .res_5_D := rfl
theorem EncodedLength.res_5_E : EncodedLength.Statement .res_5_E := rfl
theorem EncodedLength.res_5_H : EncodedLength.Statement .res_5_H := rfl
theorem EncodedLength.res_5_L : EncodedLength.Statement .res_5_L := rfl
theorem EncodedLength.res_5_atHL : EncodedLength.Statement .res_5_atHL := rfl
theorem EncodedLength.res_5_A : EncodedLength.Statement .res_5_A := rfl
theorem EncodedLength.res_6_B : EncodedLength.Statement .res_6_B := rfl
theorem EncodedLength.res_6_C : EncodedLength.Statement .res_6_C := rfl
theorem EncodedLength.res_6_D : EncodedLength.Statement .res_6_D := rfl
theorem EncodedLength.res_6_E : EncodedLength.Statement .res_6_E := rfl
theorem EncodedLength.res_6_H : EncodedLength.Statement .res_6_H := rfl
theorem EncodedLength.res_6_L : EncodedLength.Statement .res_6_L := rfl
theorem EncodedLength.res_6_atHL : EncodedLength.Statement .res_6_atHL := rfl
theorem EncodedLength.res_6_A : EncodedLength.Statement .res_6_A := rfl
theorem EncodedLength.res_7_B : EncodedLength.Statement .res_7_B := rfl
theorem EncodedLength.res_7_C : EncodedLength.Statement .res_7_C := rfl
theorem EncodedLength.res_7_D : EncodedLength.Statement .res_7_D := rfl
theorem EncodedLength.res_7_E : EncodedLength.Statement .res_7_E := rfl
theorem EncodedLength.res_7_H : EncodedLength.Statement .res_7_H := rfl
theorem EncodedLength.res_7_L : EncodedLength.Statement .res_7_L := rfl
theorem EncodedLength.res_7_atHL : EncodedLength.Statement .res_7_atHL := rfl
theorem EncodedLength.res_7_A : EncodedLength.Statement .res_7_A := rfl
theorem EncodedLength.set_0_B : EncodedLength.Statement .set_0_B := rfl
theorem EncodedLength.set_0_C : EncodedLength.Statement .set_0_C := rfl
theorem EncodedLength.set_0_D : EncodedLength.Statement .set_0_D := rfl
theorem EncodedLength.set_0_E : EncodedLength.Statement .set_0_E := rfl
theorem EncodedLength.set_0_H : EncodedLength.Statement .set_0_H := rfl
theorem EncodedLength.set_0_L : EncodedLength.Statement .set_0_L := rfl
theorem EncodedLength.set_0_atHL : EncodedLength.Statement .set_0_atHL := rfl
theorem EncodedLength.set_0_A : EncodedLength.Statement .set_0_A := rfl
theorem EncodedLength.set_1_B : EncodedLength.Statement .set_1_B := rfl
theorem EncodedLength.set_1_C : EncodedLength.Statement .set_1_C := rfl
theorem EncodedLength.set_1_D : EncodedLength.Statement .set_1_D := rfl
theorem EncodedLength.set_1_E : EncodedLength.Statement .set_1_E := rfl
theorem EncodedLength.set_1_H : EncodedLength.Statement .set_1_H := rfl
theorem EncodedLength.set_1_L : EncodedLength.Statement .set_1_L := rfl
theorem EncodedLength.set_1_atHL : EncodedLength.Statement .set_1_atHL := rfl
theorem EncodedLength.set_1_A : EncodedLength.Statement .set_1_A := rfl
theorem EncodedLength.set_2_B : EncodedLength.Statement .set_2_B := rfl
theorem EncodedLength.set_2_C : EncodedLength.Statement .set_2_C := rfl
theorem EncodedLength.set_2_D : EncodedLength.Statement .set_2_D := rfl
theorem EncodedLength.set_2_E : EncodedLength.Statement .set_2_E := rfl
theorem EncodedLength.set_2_H : EncodedLength.Statement .set_2_H := rfl
theorem EncodedLength.set_2_L : EncodedLength.Statement .set_2_L := rfl
theorem EncodedLength.set_2_atHL : EncodedLength.Statement .set_2_atHL := rfl
theorem EncodedLength.set_2_A : EncodedLength.Statement .set_2_A := rfl
theorem EncodedLength.set_3_B : EncodedLength.Statement .set_3_B := rfl
theorem EncodedLength.set_3_C : EncodedLength.Statement .set_3_C := rfl
theorem EncodedLength.set_3_D : EncodedLength.Statement .set_3_D := rfl
theorem EncodedLength.set_3_E : EncodedLength.Statement .set_3_E := rfl
theorem EncodedLength.set_3_H : EncodedLength.Statement .set_3_H := rfl
theorem EncodedLength.set_3_L : EncodedLength.Statement .set_3_L := rfl
theorem EncodedLength.set_3_atHL : EncodedLength.Statement .set_3_atHL := rfl
theorem EncodedLength.set_3_A : EncodedLength.Statement .set_3_A := rfl
theorem EncodedLength.set_4_B : EncodedLength.Statement .set_4_B := rfl
theorem EncodedLength.set_4_C : EncodedLength.Statement .set_4_C := rfl
theorem EncodedLength.set_4_D : EncodedLength.Statement .set_4_D := rfl
theorem EncodedLength.set_4_E : EncodedLength.Statement .set_4_E := rfl
theorem EncodedLength.set_4_H : EncodedLength.Statement .set_4_H := rfl
theorem EncodedLength.set_4_L : EncodedLength.Statement .set_4_L := rfl
theorem EncodedLength.set_4_atHL : EncodedLength.Statement .set_4_atHL := rfl
theorem EncodedLength.set_4_A : EncodedLength.Statement .set_4_A := rfl
theorem EncodedLength.set_5_B : EncodedLength.Statement .set_5_B := rfl
theorem EncodedLength.set_5_C : EncodedLength.Statement .set_5_C := rfl
theorem EncodedLength.set_5_D : EncodedLength.Statement .set_5_D := rfl
theorem EncodedLength.set_5_E : EncodedLength.Statement .set_5_E := rfl
theorem EncodedLength.set_5_H : EncodedLength.Statement .set_5_H := rfl
theorem EncodedLength.set_5_L : EncodedLength.Statement .set_5_L := rfl
theorem EncodedLength.set_5_atHL : EncodedLength.Statement .set_5_atHL := rfl
theorem EncodedLength.set_5_A : EncodedLength.Statement .set_5_A := rfl
theorem EncodedLength.set_6_B : EncodedLength.Statement .set_6_B := rfl
theorem EncodedLength.set_6_C : EncodedLength.Statement .set_6_C := rfl
theorem EncodedLength.set_6_D : EncodedLength.Statement .set_6_D := rfl
theorem EncodedLength.set_6_E : EncodedLength.Statement .set_6_E := rfl
theorem EncodedLength.set_6_H : EncodedLength.Statement .set_6_H := rfl
theorem EncodedLength.set_6_L : EncodedLength.Statement .set_6_L := rfl
theorem EncodedLength.set_6_atHL : EncodedLength.Statement .set_6_atHL := rfl
theorem EncodedLength.set_6_A : EncodedLength.Statement .set_6_A := rfl
theorem EncodedLength.set_7_B : EncodedLength.Statement .set_7_B := rfl
theorem EncodedLength.set_7_C : EncodedLength.Statement .set_7_C := rfl
theorem EncodedLength.set_7_D : EncodedLength.Statement .set_7_D := rfl
theorem EncodedLength.set_7_E : EncodedLength.Statement .set_7_E := rfl
theorem EncodedLength.set_7_H : EncodedLength.Statement .set_7_H := rfl
theorem EncodedLength.set_7_L : EncodedLength.Statement .set_7_L := rfl
theorem EncodedLength.set_7_atHL : EncodedLength.Statement .set_7_atHL := rfl
theorem EncodedLength.set_7_A : EncodedLength.Statement .set_7_A := rfl

end Sys2Proof.Laws
end

