-- ==== Sys2Proof/Tests/Slice0.lean ====
section
/-! SUPPORT. Tests: ill-formed terms are refused; every constructor is decoded from its word; single steps against the
vectors of 95_test_vectors.md; and one witness for every statement that has hypotheses. -/
namespace Sys2Proof.Machine

/-! ### Ill-formed terms are refused -/

/-- 30 R132: an opcode without a handler. -/
theorem test_illformed_illegal : Instr.wellFormed .illegal_DD = false ∧ Instr.wellFormed .nop = true := by decide

/-- A good image: the 32768 zero bytes of vector B1. -/
def goodImage : CartImage := { romSize := 0x8000, rom := [], save := none }

theorem test_image_good : goodImage.wellFormed = true := by decide
/-- 20 R92: ROM size code above 8. -/
theorem test_illformed_rom_code :
    CartImage.wellFormed { goodImage with rom := [(0x148, 9)], romSize := 0x8000 <<< 9 } = false := by decide
/-- 20 R92: RAM size code above 5. -/
theorem test_illformed_ram_code : CartImage.wellFormed { goodImage with rom := [(0x149, 6)] } = false := by decide
/-- 20 R92: an image whose length is not what its size code says. -/
theorem test_illformed_rom_size : CartImage.wellFormed { goodImage with romSize := 0x4000 } = false := by decide
/-- Listed bytes out of order. -/
theorem test_illformed_rom_order : CartImage.wellFormed { goodImage with rom := [(2, 1), (1, 1)] } = false := by decide
/-- A listed zero byte. -/
theorem test_illformed_rom_zero : CartImage.wellFormed { goodImage with rom := [(2, 0)] } = false := by decide
/-- A listed byte outside the image. -/
theorem test_illformed_rom_outside : CartImage.wellFormed { goodImage with rom := [(0x8000, 1)] } = false := by decide
/-- 70 R407: a save file of the wrong length. -/
theorem test_illformed_save : CartImage.wellFormed { goodImage with save := some [0x55] } = false := by decide
/-- 70 R404: an override of a byte that a device owns, or outside the I/O page. -/
theorem test_illformed_config_io : Config.wellFormed { Config.default with ioReset := [(0x41, 0)] } = false ∧
    Config.wellFormed { Config.default with ioReset := [(0x80, 0)] } = false := by decide
/-- 60 R340: a reset scanline outside V-blank. -/
theorem test_illformed_config_ly : Config.wellFormed { Config.default with lyReset := 143 } = false ∧
    Config.wellFormed { Config.default with lyReset := 154 } = false := by decide
/-- 20 R80: a DMA longer than the sprite table. -/
theorem test_illformed_config_dma : Config.wellFormed { Config.default with dmaLength := 161 } = false := by decide

/-! ### Every constructor from its word (30 R130, R131; operand bytes 0x34 and 0x12) -/

theorem test_decode_00 :
    [decode [0x00], decode [0x01, 0x34, 0x12], decode [0x02], decode [0x03], decode [0x04], decode [0x05],
     decode [0x06, 0x34], decode [0x07], decode [0x08, 0x34, 0x12], decode [0x09], decode [0x0A], decode [0x0B],
     decode [0x0C], decode [0x0D], decode [0x0E, 0x34], decode [0x0F]] =
    [.instr .nop [], .instr (.ld_BC_d16 0x1234) [], .instr .ld_atBC_A [], .instr .inc_BC [], .instr .inc_B [],
     .instr .dec_B [], .instr (.ld_B_d8 0x34) [], .instr .rlca [], .instr (.ld_atA16_SP 0x1234) [],
     .instr .add_HL_BC [], .instr .ld_A_atBC [], .instr .dec_BC [], .instr .inc_C [], .instr .dec_C [],
     .instr (.ld_C_d8 0x34) [], .instr .rrca []] := by decide

theorem test_decode_10 :
    [decode [0x10, 0x34], decode [0x11, 0x34, 0x12], decode [0x12], decode [0x13], decode [0x14], decode [0x15],
     decode [0x16, 0x34], decode [0x17], decode [0x18, 0x34], decode [0x19], decode [0x1A], decode [0x1B],
     decode [0x1C], decode [0x1D], decode [0x1E, 0x34], decode [0x1F]] =
    [.instr (.stop 0x34) [], .instr (.ld_DE_d16 0x1234) [], .instr .ld_atDE_A [], .instr .inc_DE [],
     .instr .inc_D [], .instr .dec_D [], .instr (.ld_D_d8 0x34) [], .instr .rla [], .instr (.jr_e8 0x34) [],
     .instr .add_HL_DE [], .instr .ld_A_atDE [], .instr .dec_DE [], .instr .inc_E [], .instr .dec_E [],
     .instr (.ld_E_d8 0x34) [], .instr .rra []] := by decide

theorem test_decode_20 :
    [decode [0x20, 0x34], decode [0x21, 0x34, 0x12], decode [0x22], decode [0x23], decode [0x24], decode [0x25],
     decode [0x26, 0x34], decode [0x27], decode [0x28, 0x34], decode [0x29], decode [0x2A], decode [0x2B],
     decode [0x2C], decode [0x2D], decode [0x2E, 0x34], decode [0x2F]] =
    [.instr (.jr_NZ_e8 0x34) [], .instr (.ld_HL_d16 0x1234) [], .instr .ld_atHLI_A [], .instr .inc_HL [],
     .instr .inc_H [], .instr .dec_H [], .instr (.ld_H_d8 0x34) [], .instr .daa [], .instr (.jr_Z_e8 0x34) [],
     .instr .add_HL_HL [], .instr .ld_A_atHLI [], .instr .dec_HL [], .instr .inc_L [], .instr .dec_L [],
     .instr (.ld_L_d8 0x34) [], .instr .cpl []] := by decide

theorem test_decode_30 :
    [decode [0x30, 0x34], decode [0x31, 0x34, 0x12], decode [0x32], decode [0x33], decode [0x34], decode [0x35],
     decode [0x36, 0x34], decode [0x37], decode [0x38, 0x34], decode [0x39], decode [0x3A], decode [0x3B],
     decode [0x3C], decode [0x3D], decode [0x3E, 0x34], decode [0x3F]] =
    [.instr (.jr_NC_e8 0x34) [], .instr (.ld_SP_d16 0x1234) [], .instr .ld_atHLD_A [], .instr .inc_SP [],
     .instr .inc_atHL [], .instr .dec_atHL [], .instr (.ld_atHL_d8 0x34) [], .instr .scf [],
     .instr (.jr_C_e8 0x34) [], .instr .add_HL_SP [], .instr .ld_A_atHLD [], .instr .dec_SP [], .instr .inc_A [],
     .instr .dec_A [], .instr (.ld_A_d8 0x34) [], .instr .ccf []] := by decide

theorem test_decode_40 :
    [decode [0x40], decode [0x41], decode [0x42], decode [0x43], decode [0x44], decode [0x45], decode [0x46],
     decode [0x47], decode [0x48], decode [0x49], decode [0x4A], decode [0x4B], decode [0x4C], decode [0x4D],
     decode [0x4E], decode [0x4F]] =
    [.instr .ld_B_B [], .instr .ld_B_C [], .instr .ld_B_D [], .instr .ld_B_E [], .instr .ld_B_H [],
     .instr .ld_B_L [], .instr .ld_B_atHL [], .instr .ld_B_A [], .instr .ld_C_B [], .instr .ld_C_C [],
     .instr .ld_C_D [], .instr .ld_C_E [], .instr .ld_C_H [], .instr .ld_C_L [], .instr .ld_C_atHL [],
     .instr .ld_C_A []] := by decide

theorem test_decode_50 :
    [decode [0x50], decode [0x51], decode [0x52], decode [0x53], decode [0x54], decode [0x55], decode [0x56],
     decode [0x57], decode [0x58], decode [0x59], decode [0x5A], decode [0x5B], decode [0x5C], decode [0x5D],
     decode [0x5E], decode [0x5F]] =
    [.instr .ld_D_B [], .instr .ld_D_C [], .instr .ld_D_D [], .instr .ld_D_E [], .instr .ld_D_H [],
     .instr .ld_D_L [], .instr .ld_D_atHL [], .instr .ld_D_A [], .instr .ld_E_B [], .instr .ld_E_C [],
     .instr .ld_E_D [], .instr .ld_E_E [], .instr .ld_E_H [], .instr .ld_E_L [], .instr .ld_E_atHL [],
     .instr .ld_E_A []] := by decide

theorem test_decode_60 :
    [decode [0x60], decode [0x61], decode [0x62], decode [0x63], decode [0x64], decode [0x65], decode [0x66],
     decode [0x67], decode [0x68], decode [0x69], decode [0x6A], decode [0x6B], decode [0x6C], decode [0x6D],
     decode [0x6E], decode [0x6F]] =
    [.instr .ld_H_B [], .instr .ld_H_C [], .instr .ld_H_D [], .instr .ld_H_E [], .instr .ld_H_H [],
     .instr .ld_H_L [], .instr .ld_H_atHL [], .instr .ld_H_A [], .instr .ld_L_B [], .instr .ld_L_C [],
     .instr .ld_L_D [], .instr .ld_L_E [], .instr .ld_L_H [], .instr .ld_L_L [], .instr .ld_L_atHL [],
     .instr .ld_L_A []] := by decide

theorem test_decode_70 :
    [decode [0x70], decode [0x71], decode [0x72], decode [0x73], decode [0x74], decode [0x75], decode [0x76],
     decode [0x77], decode [0x78], decode [0x79], decode [0x7A], decode [0x7B], decode [0x7C], decode [0x7D],
     decode [0x7E], decode [0x7F]] =
    [.instr .ld_atHL_B [], .instr .ld_atHL_C [], .instr .ld_atHL_D [], .instr .ld_atHL_E [], .instr .ld_atHL_H [],
     .instr .ld_atHL_L [], .instr .halt [], .instr .ld_atHL_A [], .instr .ld_A_B [], .instr .ld_A_C [],
     .instr .ld_A_D [], .instr .ld_A_E [], .instr .ld_A_H [], .instr .ld_A_L [], .instr .ld_A_atHL [],
     .instr .ld_A_A []] := by decide

theorem test_decode_80 :
    [decode [0x80], decode [0x81], decode [0x82], decode [0x83], decode [0x84], decode [0x85], decode [0x86],
     decode [0x87], decode [0x88], decode [0x89], decode [0x8A], decode [0x8B], decode [0x8C], decode [0x8D],
     decode [0x8E], decode [0x8F]] =
    [.instr .add_A_B [], .instr .add_A_C [], .instr .add_A_D [], .instr .add_A_E [], .instr .add_A_H [],
     .instr .add_A_L [], .instr .add_A_atHL [], .instr .add_A_A [], .instr .adc_A_B [], .instr .adc_A_C [],
     .instr .adc_A_D [], .instr .adc_A_E [], .instr .adc_A_H [], .instr .adc_A_L [], .instr .adc_A_atHL [],
     .instr .adc_A_A []] := by decide

theorem test_decode_90 :
    [decode [0x90], decode [0x91], decode [0x92], decode [0x93], decode [0x94], decode [0x95], decode [0x96],
     decode [0x97], decode [0x98], decode [0x99], decode [0x9A], decode [0x9B], decode [0x9C], decode [0x9D],
     decode [0x9E], decode [0x9F]] =
    [.instr .sub_B [], .instr .sub_C [], .instr .sub_D [], .instr .sub_E [], .instr .sub_H [], .instr .sub_L [],
     .instr .sub_atHL [], .instr .sub_A [], .instr .sbc_A_B [], .instr .sbc_A_C [], .instr .sbc_A_D [],
     .instr .sbc_A_E [], .instr .sbc_A_H [], .instr .sbc_A_L [], .instr .sbc_A_atHL [], .instr .sbc_A_A []] := by decide

theorem test_decode_A0 :
    [decode [0xA0], decode [0xA1], decode [0xA2], decode [0xA3], decode [0xA4], decode [0xA5], decode [0xA6],
     decode [0xA7], decode [0xA8], decode [0xA9], decode [0xAA], decode [0xAB], decode [0xAC], decode [0xAD],
     decode [0xAE], decode [0xAF]] =
    [.instr .and_B [], .instr .and_C [], .instr .and_D [], .instr .and_E [], .instr .and_H [], .instr .and_L [],
     .instr .and_atHL [], .instr .and_A [], .instr .xor_B [], .instr .xor_C [], .instr .xor_D [], .instr .xor_E [],
     .instr .xor_H [], .instr .xor_L [], .instr .xor_atHL [], .instr .xor_A []] := by decide

theorem test_decode_B0 :
    [decode [0xB0], decode [0xB1], decode [0xB2], decode [0xB3], decode [0xB4], decode [0xB5], decode [0xB6],
     decode [0xB7], decode [0xB8], decode [0xB9], decode [0xBA], decode [0xBB], decode [0xBC], decode [0xBD],
     decode [0xBE], decode [0xBF]] =
    [.instr .or_B [], .instr .or_C [], .instr .or_D [], .instr .or_E [], .instr .or_H [], .instr .or_L [],
     .instr .or_atHL [], .instr .or_A [], .instr .cp_B [], .instr .cp_C [], .instr .cp_D [], .instr .cp_E [],
     .instr .cp_H [], .instr .cp_L [], .instr .cp_atHL [], .instr .cp_A []] := by decide

theorem test_decode_C0 :
    [decode [0xC0], decode [0xC1], decode [0xC2, 0x34, 0x12], decode [0xC3, 0x34, 0x12], decode [0xC4, 0x34, 0x12],
     decode [0xC5], decode [0xC6, 0x34], decode [0xC7], decode [0xC8], decode [0xC9], decode [0xCA, 0x34, 0x12],
     decode [0xCC, 0x34, 0x12], decode [0xCD, 0x34, 0x12], decode [0xCE, 0x34], decode [0xCF]] =
    [.instr .ret_NZ [], .instr .pop_BC [], .instr (.jp_NZ_a16 0x1234) [], .instr (.jp_a16 0x1234) [],
     .instr (.call_NZ_a16 0x1234) [], .instr .push_BC [], .instr (.add_A_d8 0x34) [], .instr .rst_00 [],
     .instr .ret_Z [], .instr .ret [], .instr (.jp_Z_a16 0x1234) [], .instr (.call_Z_a16 0x1234) [],
     .instr (.call_a16 0x1234) [], .instr (.adc_A_d8 0x34) [], .instr .rst_08 []] := by decide

theorem test_decode_D0 :
    [decode [0xD0], decode [0xD1], decode [0xD2, 0x34, 0x12], decode [0xD3], decode [0xD4, 0x34, 0x12],
     decode [0xD5], decode [0xD6, 0x34], decode [0xD7], decode [0xD8], decode [0xD9], decode [0xDA, 0x34, 0x12],
     decode [0xDB], decode [0xDC, 0x34, 0x12], decode [0xDD], decode [0xDE, 0x34], decode [0xDF]] =
    [.instr .ret_NC [], .instr .pop_DE [], .instr (.jp_NC_a16 0x1234) [], .instr .illegal_D3 [],
     .instr (.call_NC_a16 0x1234) [], .instr .push_DE [], .instr (.sub_d8 0x34) [], .instr .rst_10 [],
     .instr .ret_C [], .instr .reti [], .instr (.jp_C_a16 0x1234) [], .instr .illegal_DB [],
     .instr (.call_C_a16 0x1234) [], .instr .illegal_DD [], .instr (.sbc_A_d8 0x34) [], .instr .rst_18 []] := by decide

theorem test_decode_E0 :
    [decode [0xE0, 0x34], decode [0xE1], decode [0xE2], decode [0xE3], decode [0xE4], decode [0xE5],
     decode [0xE6, 0x34], decode [0xE7], decode [0xE8, 0x34], decode [0xE9], decode [0xEA, 0x34, 0x12],
     decode [0xEB], decode [0xEC], decode [0xED], decode [0xEE, 0x34], decode [0xEF]] =
    [.instr (.ldh_atA8_A 0x34) [], .instr .pop_HL [], .instr .ld_atC_A [], .instr .illegal_E3 [],
     .instr .illegal_E4 [], .instr .push_HL [], .instr (.and_d8 0x34) [], .instr .rst_20 [],
     .instr (.add_SP_e8 0x34) [], .instr .jp_HL [], .instr (.ld_atA16_A 0x1234) [], .instr .illegal_EB [],
     .instr .illegal_EC [], .instr .illegal_ED [], .instr (.xor_d8 0x34) [], .instr .rst_28 []] := by decide

theorem test_decode_F0 :
    [decode [0xF0, 0x34], decode [0xF1], decode [0xF2], decode [0xF3], decode [0xF4], decode [0xF5],
     decode [0xF6, 0x34], decode [0xF7], decode [0xF8, 0x34], decode [0xF9], decode [0xFA, 0x34, 0x12],
     decode [0xFB], decode [0xFC], decode [0xFD], decode [0xFE, 0x34], decode [0xFF]] =
    [.instr (.ldh_A_atA8 0x34) [], .instr .pop_AF [], .instr .ld_A_atC [], .instr .di [], .instr .illegal_F4 [],
     .instr .push_AF [], .instr (.or_d8 0x34) [], .instr .rst_30 [], .instr (.ld_HL_SP_e8 0x34) [],
     .instr .ld_SP_HL [], .instr (.ld_A_atA16 0x1234) [], .instr .ei [], .instr .illegal_FC [],
     .instr .illegal_FD [], .instr (.cp_d8 0x34) [], .instr .rst_38 []] := by decide

theorem test_decode_CB_00 :
    [decode [0xCB, 0x00], decode [0xCB, 0x01], decode [0xCB, 0x02], decode [0xCB, 0x03], decode [0xCB, 0x04],
     decode [0xCB, 0x05], decode [0xCB, 0x06], decode [0xCB, 0x07], decode [0xCB, 0x08], decode [0xCB, 0x09],
     decode [0xCB, 0x0A], decode [0xCB, 0x0B], decode [0xCB, 0x0C], decode [0xCB, 0x0D], decode [0xCB, 0x0E],
     decode [0xCB, 0x0F]] =
    [.instr .rlc_B [], .instr .rlc_C [], .instr .rlc_D [], .instr .rlc_E [], .instr .rlc_H [], .instr .rlc_L [],
     .instr .rlc_atHL [], .instr .rlc_A [], .instr .rrc_B [], .instr .rrc_C [], .instr .rrc_D [], .instr .rrc_E [],
     .instr .rrc_H [], .instr .rrc_L [], .instr .rrc_atHL [], .instr .rrc_A []] := by decide

theorem test_decode_CB_10 :
    [decode [0xCB, 0x10], decode [0xCB, 0x11], decode [0xCB, 0x12], decode [0xCB, 0x13], decode [0xCB, 0x14],
     decode [0xCB, 0x15], decode [0xCB, 0x16], decode [0xCB, 0x17], decode [0xCB, 0x18], decode [0xCB, 0x19],
     decode [0xCB, 0x1A], decode [0xCB, 0x1B], decode [0xCB, 0x1C], decode [0xCB, 0x1D], decode [0xCB, 0x1E],
     decode [0xCB, 0x1F]] =
    [.instr .rl_B [], .instr .rl_C [], .instr .rl_D [], .instr .rl_E [], .instr .rl_H [], .instr .rl_L [],
     .instr .rl_atHL [], .instr .rl_A [], .instr .rr_B [], .instr .rr_C [], .instr .rr_D [], .instr .rr_E [],
     .instr .rr_H [], .instr .rr_L [], .instr .rr_atHL [], .instr .rr_A []] := by decide

theorem test_decode_CB_20 :
    [decode [0xCB, 0x20], decode [0xCB, 0x21], decode [0xCB, 0x22], decode [0xCB, 0x23], decode [0xCB, 0x24],
     decode [0xCB, 0x25], decode [0xCB, 0x26], decode [0xCB, 0x27], decode [0xCB, 0x28], decode [0xCB, 0x29],
     decode [0xCB, 0x2A], decode [0xCB, 0x2B], decode [0xCB, 0x2C], decode [0xCB, 0x2D], decode [0xCB, 0x2E],
     decode [0xCB, 0x2F]] =
    [.instr .sla_B [], .instr .sla_C [], .instr .sla_D [], .instr .sla_E [], .instr .sla_H [], .instr .sla_L [],
     .instr .sla_atHL [], .instr .sla_A [], .instr .sra_B [], .instr .sra_C [], .instr .sra_D [], .instr .sra_E [],
     .instr .sra_H [], .instr .sra_L [], .instr .sra_atHL [], .instr .sra_A []] := by decide

theorem test_decode_CB_30 :
    [decode [0xCB, 0x30], decode [0xCB, 0x31], decode [0xCB, 0x32], decode [0xCB, 0x33], decode [0xCB, 0x34],
     decode [0xCB, 0x35], decode [0xCB, 0x36], decode [0xCB, 0x37], decode [0xCB, 0x38], decode [0xCB, 0x39],
     decode [0xCB, 0x3A], decode [0xCB, 0x3B], decode [0xCB, 0x3C], decode [0xCB, 0x3D], decode [0xCB, 0x3E],
     decode [0xCB, 0x3F]] =
    [.instr .swap_B [], .instr .swap_C [], .instr .swap_D [], .instr .swap_E [], .instr .swap_H [],
     .instr .swap_L [], .instr .swap_atHL [], .instr .swap_A [], .instr .srl_B [], .instr .srl_C [],
     .instr .srl_D [], .instr .srl_E [], .instr .srl_H [], .instr .srl_L [], .instr .srl_atHL [], .instr .srl_A []] := by decide

theorem test_decode_CB_40 :
    [decode [0xCB, 0x40], decode [0xCB, 0x41], decode [0xCB, 0x42], decode [0xCB, 0x43], decode [0xCB, 0x44],
     decode [0xCB, 0x45], decode [0xCB, 0x46], decode [0xCB, 0x47], decode [0xCB, 0x48], decode [0xCB, 0x49],
     decode [0xCB, 0x4A], decode [0xCB, 0x4B], decode [0xCB, 0x4C], decode [0xCB, 0x4D], decode [0xCB, 0x4E],
     decode [0xCB, 0x4F]] =
    [.instr .bit_0_B [], .instr .bit_0_C [], .instr .bit_0_D [], .instr .bit_0_E [], .instr .bit_0_H [],
     .instr .bit_0_L [], .instr .bit_0_atHL [], .instr .bit_0_A [], .instr .bit_1_B [], .instr .bit_1_C [],
     .instr .bit_1_D [], .instr .bit_1_E [], .instr .bit_1_H [], .instr .bit_1_L [], .instr .bit_1_atHL [],
     .instr .bit_1_A []] := by decide

theorem test_decode_CB_50 :
    [decode [0xCB, 0x50], decode [0xCB, 0x51], decode [0xCB, 0x52], decode [0xCB, 0x53], decode [0xCB, 0x54],
     decode [0xCB, 0x55], decode [0xCB, 0x56], decode [0xCB, 0x57], decode [0xCB, 0x58], decode [0xCB, 0x59],
     decode [0xCB, 0x5A], decode [0xCB, 0x5B], decode [0xCB, 0x5C], decode [0xCB, 0x5D], decode [0xCB, 0x5E],
     decode [0xCB, 0x5F]] =
    [.instr .bit_2_B [], .instr .bit_2_C [], .instr .bit_2_D [], .instr .bit_2_E [], .instr .bit_2_H [],
     .instr .bit_2_L [], .instr .bit_2_atHL [], .instr .bit_2_A [], .instr .bit_3_B [], .instr .bit_3_C [],
     .instr .bit_3_D [], .instr .bit_3_E [], .instr .bit_3_H [], .instr .bit_3_L [], .instr .bit_3_atHL [],
     .instr .bit_3_A []] := by decide

theorem test_decode_CB_60 :
    [decode [0xCB, 0x60], decode [0xCB, 0x61], decode [0xCB, 0x62], decode [0xCB, 0x63], decode [0xCB, 0x64],
     decode [0xCB, 0x65], decode [0xCB, 0x66], decode [0xCB, 0x67], decode [0xCB, 0x68], decode [0xCB, 0x69],
     decode [0xCB, 0x6A], decode [0xCB, 0x6B], decode [0xCB, 0x6C], decode [0xCB, 0x6D], decode [0xCB, 0x6E],
     decode [0xCB, 0x6F]] =
    [.instr .bit_4_B [], .instr .bit_4_C [], .instr .bit_4_D [], .instr .bit_4_E [], .instr .bit_4_H [],
     .instr .bit_4_L [], .instr .bit_4_atHL [], .instr .bit_4_A [], .instr .bit_5_B [], .instr .bit_5_C [],
     .instr .bit_5_D [], .instr .bit_5_E [], .instr .bit_5_H [], .instr .bit_5_L [], .instr .bit_5_atHL [],
     .instr .bit_5_A []] := by decide

theorem test_decode_CB_70 :
    [decode [0xCB, 0x70], decode [0xCB, 0x71], decode [0xCB, 0x72], decode [0xCB, 0x73], decode [0xCB, 0x74],
     decode [0xCB, 0x75], decode [0xCB, 0x76], decode [0xCB, 0x77], decode [0xCB, 0x78], decode [0xCB, 0x79],
     decode [0xCB, 0x7A], decode [0xCB, 0x7B], decode [0xCB, 0x7C], decode [0xCB, 0x7D], decode [0xCB, 0x7E],
     decode [0xCB, 0x7F]] =
    [.instr .bit_6_B [], .instr .bit_6_C [], .instr .bit_6_D [], .instr .bit_6_E [], .instr .bit_6_H [],
     .instr .bit_6_L [], .instr .bit_6_atHL [], .instr .bit_6_A [], .instr .bit_7_B [], .instr .bit_7_C [],
     .instr .bit_7_D [], .instr .bit_7_E [], .instr .bit_7_H [], .instr .bit_7_L [], .instr .bit_7_atHL [],
     .instr .bit_7_A []] := by decide

theorem test_decode_CB_80 :
    [decode [0xCB, 0x80], decode [0xCB, 0x81], decode [0xCB, 0x82], decode [0xCB, 0x83], decode [0xCB, 0x84],
     decode [0xCB, 0x85], decode [0xCB, 0x86], decode [0xCB, 0x87], decode [0xCB, 0x88], decode [0xCB, 0x89],
     decode [0xCB, 0x8A], decode [0xCB, 0x8B], decode [0xCB, 0x8C], decode [0xCB, 0x8D], decode [0xCB, 0x8E],
     decode [0xCB, 0x8F]] =
    [.instr .res_0_B [], .instr .res_0_C [], .instr .res_0_D [], .instr .res_0_E [], .instr .res_0_H [],
     .instr .res_0_L [], .instr .res_0_atHL [], .instr .res_0_A [], .instr .res_1_B [], .instr .res_1_C [],
     .instr .res_1_D [], .instr .res_1_E [], .instr .res_1_H [], .instr .res_1_L [], .instr .res_1_atHL [],
     .instr .res_1_A []] := by decide

theorem test_decode_CB_90 :
    [decode [0xCB, 0x90], decode [0xCB, 0x91], decode [0xCB, 0x92], decode [0xCB, 0x93], decode [0xCB, 0x94],
     decode [0xCB, 0x95], decode [0xCB, 0x96], decode [0xCB, 0x97], decode [0xCB, 0x98], decode [0xCB, 0x99],
     decode [0xCB, 0x9A], decode [0xCB, 0x9B], decode [0xCB, 0x9C], decode [0xCB, 0x9D], decode [0xCB, 0x9E],
     decode [0xCB, 0x9F]] =
    [.instr .res_2_B [], .instr .res_2_C [], .instr .res_2_D [], .instr .res_2_E [], .instr .res_2_H [],
     .instr .res_2_L [], .instr .res_2_atHL [], .instr .res_2_A [], .instr .res_3_B [], .instr .res_3_C [],
     .instr .res_3_D [], .instr .res_3_E [], .instr .res_3_H [], .instr .res_3_L [], .instr .res_3_atHL [],
     .instr .res_3_A []] := by decide

theorem test_decode_CB_A0 :
    [decode [0xCB, 0xA0], decode [0xCB, 0xA1], decode [0xCB, 0xA2], decode [0xCB, 0xA3], decode [0xCB, 0xA4],
     decode [0xCB, 0xA5], decode [0xCB, 0xA6], decode [0xCB, 0xA7], decode [0xCB, 0xA8], decode [0xCB, 0xA9],
     decode [0xCB, 0xAA], decode [0xCB, 0xAB], decode [0xCB, 0xAC], decode [0xCB, 0xAD], decode [0xCB, 0xAE],
     decode [0xCB, 0xAF]] =
    [.instr .res_4_B [], .instr .res_4_C [], .instr .res_4_D [], .instr .res_4_E [], .instr .res_4_H [],
     .instr .res_4_L [], .instr .res_4_atHL [], .instr .res_4_A [], .instr .res_5_B [], .instr .res_5_C [],
     .instr .res_5_D [], .instr .res_5_E [], .instr .res_5_H [], .instr .res_5_L [], .instr .res_5_atHL [],
     .instr .res_5_A []] := by decide

theorem test_decode_CB_B0 :
    [decode [0xCB, 0xB0], decode [0xCB, 0xB1], decode [0xCB, 0xB2], decode [0xCB, 0xB3], decode [0xCB, 0xB4],
     decode [0xCB, 0xB5], decode [0xCB, 0xB6], decode [0xCB, 0xB7], decode [0xCB, 0xB8], decode [0xCB, 0xB9],
     decode [0xCB, 0xBA], decode [0xCB, 0xBB], decode [0xCB, 0xBC], decode [0xCB, 0xBD], decode [0xCB, 0xBE],
     decode [0xCB, 0xBF]] =
    [.instr .res_6_B [], .instr .res_6_C [], .instr .res_6_D [], .instr .res_6_E [], .instr .res_6_H [],
     .instr .res_6_L [], .instr .res_6_atHL [], .instr .res_6_A [], .instr .res_7_B [], .instr .res_7_C [],
     .instr .res_7_D [], .instr .res_7_E [], .instr .res_7_H [], .instr .res_7_L [], .instr .res_7_atHL [],
     .instr .res_7_A []] := by decide

theorem test_decode_CB_C0 :
    [decode [0xCB, 0xC0], decode [0xCB, 0xC1], decode [0xCB, 0xC2], decode [0xCB, 0xC3], decode [0xCB, 0xC4],
     decode [0xCB, 0xC5], decode [0xCB, 0xC6], decode [0xCB, 0xC7], decode [0xCB, 0xC8], decode [0xCB, 0xC9],
     decode [0xCB, 0xCA], decode [0xCB, 0xCB], decode [0xCB, 0xCC], decode [0xCB, 0xCD], decode [0xCB, 0xCE],
     decode [0xCB, 0xCF]] =
    [.instr .set_0_B [], .instr .set_0_C [], .instr .set_0_D [], .instr .set_0_E [], .instr .set_0_H [],
     .instr .set_0_L [], .instr .set_0_atHL [], .instr .set_0_A [], .instr .set_1_B [], .instr .set_1_C [],
     .instr .set_1_D [], .instr .set_1_E [], .instr .set_1_H [], .instr .set_1_L [], .instr .set_1_atHL [],
     .instr .set_1_A []] := by decide

theorem test_decode_CB_D0 :
    [decode [0xCB, 0xD0], decode [0xCB, 0xD1], decode [0xCB, 0xD2], decode [0xCB, 0xD3], decode [0xCB, 0xD4],
     decode [0xCB, 0xD5], decode [0xCB, 0xD6], decode [0xCB, 0xD7], decode [0xCB, 0xD8], decode [0xCB, 0xD9],
     decode [0xCB, 0xDA], decode [0xCB, 0xDB], decode [0xCB, 0xDC], decode [0xCB, 0xDD], decode [0xCB, 0xDE],
     decode [0xCB, 0xDF]] =
    [.instr .set_2_B [], .instr .set_2_C [], .instr .set_2_D [], .instr .set_2_E [], .instr .set_2_H [],
     .instr .set_2_L [], .instr .set_2_atHL [], .instr .set_2_A [], .instr .set_3_B [], .instr .set_3_C [],
     .instr .set_3_D [], .instr .set_3_E [], .instr .set_3_H [], .instr .set_3_L [], .instr .set_3_atHL [],
     .instr .set_3_A []] := by decide

theorem test_decode_CB_E0 :
    [decode [0xCB, 0xE0], decode [0xCB, 0xE1], decode [0xCB, 0xE2], decode [0xCB, 0xE3], decode [0xCB, 0xE4],
     decode [0xCB, 0xE5], decode [0xCB, 0xE6], decode [0xCB, 0xE7], decode [0xCB, 0xE8], decode [0xCB, 0xE9],
     decode [0xCB, 0xEA], decode [0xCB, 0xEB], decode [0xCB, 0xEC], decode [0xCB, 0xED], decode [0xCB, 0xEE],
     decode [0xCB, 0xEF]] =
    [.instr .set_4_B [], .instr .set_4_C [], .instr .set_4_D [], .instr .set_4_E [], .instr .set_4_H [],
     .instr .set_4_L [], .instr .set_4_atHL [], .instr .set_4_A [], .instr .set_5_B [], .instr .set_5_C [],
     .instr .set_5_D [], .instr .set_5_E [], .instr .set_5_H [], .instr .set_5_L [], .instr .set_5_atHL [],
     .instr .set_5_A []] := by decide

theorem test_decode_CB_F0 :
    [decode [0xCB, 0xF0], decode [0xCB, 0xF1], decode [0xCB, 0xF2], decode [0xCB, 0xF3], decode [0xCB, 0xF4],
     decode [0xCB, 0xF5], decode [0xCB, 0xF6], decode [0xCB, 0xF7], decode [0xCB, 0xF8], decode [0xCB, 0xF9],
     decode [0xCB, 0xFA], decode [0xCB, 0xFB], decode [0xCB, 0xFC], decode [0xCB, 0xFD], decode [0xCB, 0xFE],
     decode [0xCB, 0xFF]] =
    [.instr .set_6_B [], .instr .set_6_C [], .instr .set_6_D [], .instr .set_6_E [], .instr .set_6_H [],
     .instr .set_6_L [], .instr .set_6_atHL [], .instr .set_6_A [], .instr .set_7_B [], .instr .set_7_C [],
     .instr .set_7_D [], .instr .set_7_E [], .instr .set_7_H [], .instr .set_7_L [], .instr .set_7_atHL [],
     .instr .set_7_A []] := by decide

/-- 30 R120: a word cut short is rejected by name. -/
theorem test_decode_cut : [decode [], decode [0xC3, 0x50], decode [0xCB]] =
    [.rejected (.truncated 0 1), .rejected (.truncated 2 3), .rejected (.truncated 1 2)] := by decide
/-- 30 R137: the opcode byte is the high byte of the table's word. -/
theorem test_table_word : [decodeTableWord 16 0x0100, decodeTableWord 16 0xCB7E, decodeTableWord 8 0x00] =
    [some (.ld_BC_d16 0), some .bit_7_atHL, some .nop] := by decide

/-! ### Single steps (95_test_vectors.md; code at 0xC000, the other registers as after boot) -/

/-- The boot state with code at 0xC000, `PC` there, the CPU changed by `f`, and bytes behind bus addresses. -/
def start (code : List Byte) (f : Cpu → Cpu) (cells : List (Word × Byte)) : State :=
  let s := { State.reset with mem := { State.reset.mem with wram := Memory.ofBytes 0 code } }
  (cells.foldl (fun t c => t.placeByte c.1 c.2) s).onCpu fun c => f { c with pc := 0xC000 }

/-- What a look at the state after one step shows. -/
def look {α : Type} (s : State) (f : State → α) : Option α := (step s).state?.map f

set_option maxRecDepth 4096

/-- LD (HL),E -/
theorem test_V2 : look (start [0x73] (fun c => { c with h := 0xC1, l := 0x00, e := 0x77 }) [])
    (fun t => (t.cpu.f, t.cpu.pc, t.busValue 0xC100, t.cpu.ticks)) = some (0xB0, 0xC001, 0x77, 8) := by decide
/-- LD H,(HL) -/
theorem test_V4 : look (start [0x66] (fun c => { c with h := 0xC1, l := 0x00 }) [(0xC100, 0xD0)])
    (fun t => (t.cpu.h, t.cpu.f, t.cpu.pc, t.cpu.ticks)) = some (0xD0, 0xB0, 0xC001, 8) := by decide
/-- LD D,0xFF -/
theorem test_V5 : look (start [0x16, 0xFF] (id) [])
    (fun t => (t.cpu.d, t.cpu.f, t.cpu.pc, t.cpu.ticks)) = some (0xFF, 0xB0, 0xC002, 8) := by decide
/-- LD (BC),A -/
theorem test_V7 : look (start [0x02] (fun c => { c with b := 0xC2, c := 0x00, a := 0x3C }) [])
    (fun t => (t.cpu.f, t.cpu.pc, t.busValue 0xC200, t.cpu.ticks)) = some (0xB0, 0xC001, 0x3C, 8) := by decide
/-- LD A,(DE) -/
theorem test_V8 : look (start [0x1A] (fun c => { c with d := 0xC2, e := 0x01 }) [(0xC201, 0x42)])
    (fun t => (t.cpu.a, t.cpu.f, t.cpu.pc, t.cpu.ticks)) = some (0x42, 0xB0, 0xC001, 8) := by decide
/-- LD (HL+),A -/
theorem test_V9 : look (start [0x22] (fun c => { c with h := 0xFF, l := 0xFF, a := 0x15 }) [])
    (fun t => (t.cpu.h, t.cpu.l, t.cpu.f, t.cpu.pc, t.busValue 0xFFFF, t.cpu.ticks)) = some (0x00, 0x00, 0xB0, 0xC001, 0x15, 8) := by decide
/-- LD A,(HL-) -/
theorem test_V10 : look (start [0x3A] (fun c => { c with h := 0x00, l := 0x00 }) [])
    (fun t => (t.cpu.a, t.cpu.h, t.cpu.l, t.cpu.f, t.cpu.pc, t.cpu.ticks)) = some (0x00, 0xFF, 0xFF, 0xB0, 0xC001, 8) := by decide
/-- LD (HL-),A -/
theorem test_V11 : look (start [0x32] (fun c => { c with h := 0xC3, l := 0x00, a := 0xEE }) [])
    (fun t => (t.cpu.h, t.cpu.l, t.cpu.f, t.cpu.pc, t.busValue 0xC300, t.cpu.ticks)) = some (0xC2, 0xFF, 0xB0, 0xC001, 0xEE, 8) := by decide
/-- LD A,(HL+) -/
theorem test_V12 : look (start [0x2A] (fun c => { c with h := 0xC0, l := 0xFF }) [(0xC0FF, 0x66)])
    (fun t => (t.cpu.a, t.cpu.h, t.cpu.l, t.cpu.f, t.cpu.pc, t.cpu.ticks)) = some (0x66, 0xC1, 0x00, 0xB0, 0xC001, 8) := by decide
/-- LDH (0x80),A -/
theorem test_V13 : look (start [0xE0, 0x80] (fun c => { c with a := 0xAB }) [])
    (fun t => (t.cpu.f, t.cpu.pc, t.busValue 0xFF80, t.cpu.ticks)) = some (0xB0, 0xC002, 0xAB, 12) := by decide
/-- LDH A,(0x44) -/
theorem test_V14 : look (start [0xF0, 0x44] (id) [])
    (fun t => (t.cpu.a, t.cpu.f, t.cpu.pc, t.cpu.ticks)) = some (0x90, 0xB0, 0xC002, 12) := by decide
/-- LDH (C),A -/
theorem test_V15 : look (start [0xE2] (fun c => { c with c := 0x81, a := 0x99 }) [])
    (fun t => (t.cpu.f, t.cpu.pc, t.busValue 0xFF81, t.cpu.ticks)) = some (0xB0, 0xC001, 0x99, 8) := by decide
/-- LDH A,(C) -/
theorem test_V16 : look (start [0xF2] (fun c => { c with c := 0x00 }) [])
    (fun t => (t.cpu.a, t.cpu.f, t.cpu.pc, t.cpu.ticks)) = some (0xCF, 0xB0, 0xC001, 8) := by decide
/-- LD (0xC234),A -/
theorem test_V17 : look (start [0xEA, 0x34, 0xC2] (fun c => { c with a := 0x11 }) [])
    (fun t => (t.cpu.f, t.cpu.pc, t.busValue 0xC234, t.cpu.ticks)) = some (0xB0, 0xC003, 0x11, 16) := by decide
/-- LD A,(0xE234) -/
theorem test_V18 : look (start [0xFA, 0x34, 0xE2] (id) [(0xC234, 0x5D)])
    (fun t => (t.cpu.a, t.cpu.f, t.cpu.pc, t.cpu.ticks)) = some (0x5D, 0xB0, 0xC003, 16) := by decide
/-- LDH (0x04),A -/
theorem test_V19 : look (start [0xE0, 0x04] (fun c => { c with a := 0x77 }) [(0xFF04, 0x33)])
    (fun t => (t.cpu.f, t.cpu.pc, t.busValue 0xFF04, t.cpu.ticks)) = some (0xB0, 0xC002, 0x00, 12) := by decide
/-- LD BC,0x1234 -/
theorem test_V30 : look (start [0x01, 0x34, 0x12] (id) [])
    (fun t => (t.cpu.b, t.cpu.c, t.cpu.f, t.cpu.pc, t.cpu.ticks)) = some (0x12, 0x34, 0xB0, 0xC003, 12) := by decide
/-- LD (0xC300),SP -/
theorem test_V32 : look (start [0x08, 0x00, 0xC3] (fun c => { c with sp := 0xBEEF }) [])
    (fun t => (t.cpu.f, t.cpu.pc, t.busValue 0xC300, t.busValue 0xC301, t.cpu.ticks)) = some (0xB0, 0xC003, 0xEF, 0xBE, 20) := by decide
/-- LD SP,HL -/
theorem test_V33 : look (start [0xF9] (fun c => { c with h := 0xD0, l := 0x00 }) [])
    (fun t => (t.cpu.f, t.cpu.sp, t.cpu.pc, t.cpu.ticks)) = some (0xB0, 0xD000, 0xC001, 8) := by decide
/-- PUSH BC -/
theorem test_V34 : look (start [0xC5] (fun c => { c with b := 0x12, c := 0x34, sp := 0xD000 }) [])
    (fun t => (t.cpu.f, t.cpu.sp, t.cpu.pc, t.busValue 0xCFFF, t.busValue 0xCFFE, t.cpu.ticks)) = some (0xB0, 0xCFFE, 0xC001, 0x12, 0x34, 16) := by decide
/-- POP AF -/
theorem test_V36 : look (start [0xF1] (fun c => { c with sp := 0xCFFE }) [(0xCFFE, 0xFF), (0xCFFF, 0x12)])
    (fun t => (t.cpu.a, t.cpu.f, t.cpu.sp, t.cpu.pc, t.cpu.ticks)) = some (0x12, 0xF0, 0xD000, 0xC001, 12) := by decide
/-- POP HL -/
theorem test_V37 : look (start [0xE1] (fun c => { c with sp := 0xCFFE }) [(0xCFFE, 0x34), (0xCFFF, 0x12)])
    (fun t => (t.cpu.h, t.cpu.l, t.cpu.f, t.cpu.sp, t.cpu.pc, t.cpu.ticks)) = some (0x12, 0x34, 0xB0, 0xD000, 0xC001, 12) := by decide
/-- PUSH DE -/
theorem test_V38 : look (start [0xD5] (fun c => { c with d := 0xAB, e := 0xCD, sp := 0x0001 }) [])
    (fun t => (t.cpu.f, t.cpu.sp, t.cpu.pc, t.busValue 0xFFFF, t.cpu.ticks)) = some (0xB0, 0xFFFF, 0xC001, 0xCD, 16) := by decide
/-- LD HL,SP-1 -/
theorem test_V40 : look (start [0xF8, 0xFF] (fun c => { c with sp := 0x0000 }) [])
    (fun t => (t.cpu.h, t.cpu.l, t.cpu.f, t.cpu.pc, t.cpu.ticks)) = some (0xFF, 0xFF, 0x00, 0xC002, 12) := by decide
/-- LD HL,SP+1 -/
theorem test_V41 : look (start [0xF8, 0x01] (fun c => { c with sp := 0x00FF }) [])
    (fun t => (t.cpu.l, t.cpu.f, t.cpu.pc, t.cpu.ticks)) = some (0x00, 0x30, 0xC002, 12) := by decide
/-- ADD SP,-2 -/
theorem test_V42 : look (start [0xE8, 0xFE] (fun c => { c with sp := 0xD000 }) [])
    (fun t => (t.cpu.f, t.cpu.sp, t.cpu.pc, t.cpu.ticks)) = some (0x00, 0xCFFE, 0xC002, 16) := by decide
/-- ADD SP,+8 -/
theorem test_V43 : look (start [0xE8, 0x08] (fun c => { c with sp := 0xFFF8 }) [])
    (fun t => (t.cpu.f, t.cpu.sp, t.cpu.pc, t.cpu.ticks)) = some (0x30, 0x0000, 0xC002, 16) := by decide
/-- ADD A,B -/
theorem test_V51 : look (start [0x80] (fun c => { c with a := 0xFF, b := 0x01, f := 0x00 }) [])
    (fun t => (t.cpu.a, t.cpu.f, t.cpu.pc, t.cpu.ticks)) = some (0x00, 0xB0, 0xC001, 4) := by decide
/-- ADC A,C -/
theorem test_V56 : look (start [0x89] (fun c => { c with a := 0xFF, c := 0xFF, f := 0x10 }) [])
    (fun t => (t.cpu.a, t.cpu.f, t.cpu.pc, t.cpu.ticks)) = some (0xFF, 0x30, 0xC001, 4) := by decide
/-- ADC A,0x0F -/
theorem test_V57 : look (start [0xCE, 0x0F] (fun c => { c with a := 0xF0, f := 0x10 }) [])
    (fun t => (t.cpu.a, t.cpu.f, t.cpu.pc, t.cpu.ticks)) = some (0x00, 0xB0, 0xC002, 8) := by decide
/-- SUB B -/
theorem test_V59 : look (start [0x90] (fun c => { c with a := 0x00, b := 0x01, f := 0x00 }) [])
    (fun t => (t.cpu.a, t.cpu.f, t.cpu.pc, t.cpu.ticks)) = some (0xFF, 0x70, 0xC001, 4) := by decide
/-- SBC A,C -/
theorem test_V61 : look (start [0x99] (fun c => { c with a := 0x00, c := 0xFF, f := 0x10 }) [])
    (fun t => (t.cpu.a, t.cpu.f, t.cpu.pc, t.cpu.ticks)) = some (0x00, 0xF0, 0xC001, 4) := by decide
/-- SBC A,0xFF -/
theorem test_V64 : look (start [0xDE, 0xFF] (fun c => { c with a := 0xFF, f := 0x10 }) [])
    (fun t => (t.cpu.a, t.cpu.f, t.cpu.pc, t.cpu.ticks)) = some (0xFF, 0x70, 0xC002, 8) := by decide
/-- AND A -/
theorem test_V66 : look (start [0xA7] (fun c => { c with a := 0x80, f := 0x10 }) [])
    (fun t => (t.cpu.a, t.cpu.f, t.cpu.pc, t.cpu.ticks)) = some (0x80, 0x20, 0xC001, 4) := by decide
/-- XOR (HL) -/
theorem test_V68 : look (start [0xAE] (fun c => { c with a := 0xFF, h := 0xC1, l := 0x00, f := 0x00 }) [(0xC100, 0x0F)])
    (fun t => (t.cpu.a, t.cpu.f, t.cpu.pc, t.cpu.ticks)) = some (0xF0, 0x00, 0xC001, 8) := by decide
/-- OR 0x81 -/
theorem test_V70 : look (start [0xF6, 0x81] (fun c => { c with a := 0x02, f := 0xF0 }) [])
    (fun t => (t.cpu.a, t.cpu.f, t.cpu.pc, t.cpu.ticks)) = some (0x83, 0x00, 0xC002, 8) := by decide
/-- CP 0x40 -/
theorem test_V72 : look (start [0xFE, 0x40] (fun c => { c with a := 0x3C, f := 0x00 }) [])
    (fun t => (t.cpu.f, t.cpu.pc, t.cpu.ticks)) = some (0x50, 0xC002, 8) := by decide
/-- CP (HL) -/
theorem test_V73 : look (start [0xBE] (fun c => { c with a := 0x3C, h := 0xC1, l := 0x00, f := 0x00 }) [(0xC100, 0x2F)])
    (fun t => (t.cpu.f, t.cpu.pc, t.cpu.ticks)) = some (0x60, 0xC001, 8) := by decide
/-- INC B -/
theorem test_V74 : look (start [0x04] (fun c => { c with b := 0xFF, f := 0x10 }) [])
    (fun t => (t.cpu.b, t.cpu.f, t.cpu.pc, t.cpu.ticks)) = some (0x00, 0xB0, 0xC001, 4) := by decide
/-- DEC B -/
theorem test_V77 : look (start [0x05] (fun c => { c with b := 0x01, f := 0x10 }) [])
    (fun t => (t.cpu.b, t.cpu.f, t.cpu.pc, t.cpu.ticks)) = some (0x00, 0xD0, 0xC001, 4) := by decide
/-- INC (HL) -/
theorem test_V79 : look (start [0x34] (fun c => { c with h := 0xC1, l := 0x00, f := 0x00 }) [(0xC100, 0xFF)])
    (fun t => (t.cpu.f, t.cpu.pc, t.busValue 0xC100, t.cpu.ticks)) = some (0xA0, 0xC001, 0x00, 12) := by decide
/-- DEC (HL) -/
theorem test_V80 : look (start [0x35] (fun c => { c with h := 0xC1, l := 0x00, f := 0x10 }) [(0xC100, 0x00)])
    (fun t => (t.cpu.f, t.cpu.pc, t.busValue 0xC100, t.cpu.ticks)) = some (0x70, 0xC001, 0xFF, 12) := by decide
/-- INC (HL) -/
theorem test_V81 : look (start [0x34] (fun c => { c with h := 0xFF, l := 0x04, f := 0x00 }) [(0xFF04, 0x41)])
    (fun t => (t.cpu.f, t.cpu.pc, t.busValue 0xFF04, t.cpu.ticks)) = some (0x00, 0xC001, 0x00, 12) := by decide
/-- DAA -/
theorem test_V82 : look (start [0x27] (fun c => { c with a := 0x9A, f := 0x00 }) [])
    (fun t => (t.cpu.a, t.cpu.f, t.cpu.pc, t.cpu.ticks)) = some (0x00, 0x90, 0xC001, 4) := by decide
/-- DAA -/
theorem test_V84 : look (start [0x27] (fun c => { c with a := 0x00, f := 0x30 }) [])
    (fun t => (t.cpu.a, t.cpu.f, t.cpu.pc, t.cpu.ticks)) = some (0x66, 0x10, 0xC001, 4) := by decide
/-- DAA -/
theorem test_V85 : look (start [0x27] (fun c => { c with a := 0xFF, f := 0x70 }) [])
    (fun t => (t.cpu.a, t.cpu.f, t.cpu.pc, t.cpu.ticks)) = some (0x99, 0x50, 0xC001, 4) := by decide
/-- DAA -/
theorem test_V86 : look (start [0x27] (fun c => { c with a := 0x2D, f := 0x60 }) [])
    (fun t => (t.cpu.a, t.cpu.f, t.cpu.pc, t.cpu.ticks)) = some (0x27, 0x40, 0xC001, 4) := by decide
/-- CPL -/
theorem test_V88 : look (start [0x2F] (fun c => { c with a := 0x35, f := 0x90 }) [])
    (fun t => (t.cpu.a, t.cpu.f, t.cpu.pc, t.cpu.ticks)) = some (0xCA, 0xF0, 0xC001, 4) := by decide
/-- SCF -/
theorem test_V89 : look (start [0x37] (fun c => { c with f := 0xE0 }) [])
    (fun t => (t.cpu.f, t.cpu.pc, t.cpu.ticks)) = some (0x90, 0xC001, 4) := by decide
/-- CCF -/
theorem test_V90 : look (start [0x3F] (fun c => { c with f := 0xF0 }) [])
    (fun t => (t.cpu.f, t.cpu.pc, t.cpu.ticks)) = some (0x80, 0xC001, 4) := by decide
/-- ADD HL,BC -/
theorem test_V100 : look (start [0x09] (fun c => { c with h := 0x0F, l := 0xFF, b := 0x00, c := 0x01, f := 0x80 }) [])
    (fun t => (t.cpu.h, t.cpu.l, t.cpu.f, t.cpu.pc, t.cpu.ticks)) = some (0x10, 0x00, 0xA0, 0xC001, 8) := by decide
/-- ADD HL,DE -/
theorem test_V101 : look (start [0x19] (fun c => { c with h := 0xFF, l := 0xFF, d := 0x00, e := 0x01, f := 0x40 }) [])
    (fun t => (t.cpu.h, t.cpu.l, t.cpu.f, t.cpu.pc, t.cpu.ticks)) = some (0x00, 0x00, 0x30, 0xC001, 8) := by decide
/-- ADD HL,SP -/
theorem test_V103 : look (start [0x39] (fun c => { c with h := 0x00, l := 0xFF, sp := 0x0001, f := 0xF0 }) [])
    (fun t => (t.cpu.h, t.cpu.l, t.cpu.f, t.cpu.pc, t.cpu.ticks)) = some (0x01, 0x00, 0x80, 0xC001, 8) := by decide
/-- DEC DE -/
theorem test_V105 : look (start [0x1B] (fun c => { c with d := 0x00, e := 0x00, f := 0xF0 }) [])
    (fun t => (t.cpu.d, t.cpu.e, t.cpu.f, t.cpu.pc, t.cpu.ticks)) = some (0xFF, 0xFF, 0xF0, 0xC001, 8) := by decide
/-- INC SP -/
theorem test_V106 : look (start [0x33] (fun c => { c with sp := 0xFFFF }) [])
    (fun t => (t.cpu.f, t.cpu.sp, t.cpu.pc, t.cpu.ticks)) = some (0xB0, 0x0000, 0xC001, 8) := by decide
/-- RLCA -/
theorem test_V110 : look (start [0x07] (fun c => { c with a := 0x80, f := 0xE0 }) [])
    (fun t => (t.cpu.a, t.cpu.f, t.cpu.pc, t.cpu.ticks)) = some (0x01, 0x10, 0xC001, 4) := by decide
/-- RRCA -/
theorem test_V112 : look (start [0x0F] (fun c => { c with a := 0x01, f := 0x00 }) [])
    (fun t => (t.cpu.a, t.cpu.f, t.cpu.pc, t.cpu.ticks)) = some (0x80, 0x10, 0xC001, 4) := by decide
/-- RLA -/
theorem test_V113 : look (start [0x17] (fun c => { c with a := 0x80, f := 0x00 }) [])
    (fun t => (t.cpu.a, t.cpu.f, t.cpu.pc, t.cpu.ticks)) = some (0x00, 0x10, 0xC001, 4) := by decide
/-- RRA -/
theorem test_V116 : look (start [0x1F] (fun c => { c with a := 0x00, f := 0x10 }) [])
    (fun t => (t.cpu.a, t.cpu.f, t.cpu.pc, t.cpu.ticks)) = some (0x80, 0x00, 0xC001, 4) := by decide
/-- RLC B -/
theorem test_V117 : look (start [0xCB, 0x00] (fun c => { c with b := 0x85, f := 0x00 }) [])
    (fun t => (t.cpu.b, t.cpu.f, t.cpu.pc, t.cpu.ticks)) = some (0x0B, 0x10, 0xC002, 8) := by decide
/-- RRC C -/
theorem test_V119 : look (start [0xCB, 0x09] (fun c => { c with c := 0x01, f := 0x00 }) [])
    (fun t => (t.cpu.c, t.cpu.f, t.cpu.pc, t.cpu.ticks)) = some (0x80, 0x10, 0xC002, 8) := by decide
/-- RL D -/
theorem test_V120 : look (start [0xCB, 0x12] (fun c => { c with d := 0x80, f := 0x00 }) [])
    (fun t => (t.cpu.d, t.cpu.f, t.cpu.pc, t.cpu.ticks)) = some (0x00, 0x90, 0xC002, 8) := by decide
/-- RR E -/
theorem test_V121 : look (start [0xCB, 0x1B] (fun c => { c with e := 0x01, f := 0x10 }) [])
    (fun t => (t.cpu.e, t.cpu.f, t.cpu.pc, t.cpu.ticks)) = some (0x80, 0x10, 0xC002, 8) := by decide
/-- SLA H -/
theorem test_V122 : look (start [0xCB, 0x24] (fun c => { c with h := 0xFF, f := 0x00 }) [])
    (fun t => (t.cpu.h, t.cpu.f, t.cpu.pc, t.cpu.ticks)) = some (0xFE, 0x10, 0xC002, 8) := by decide
/-- SRA L -/
theorem test_V123 : look (start [0xCB, 0x2D] (fun c => { c with l := 0x81, f := 0x00 }) [])
    (fun t => (t.cpu.l, t.cpu.f, t.cpu.pc, t.cpu.ticks)) = some (0xC0, 0x10, 0xC002, 8) := by decide
/-- SWAP A -/
theorem test_V125 : look (start [0xCB, 0x37] (fun c => { c with a := 0xF1, f := 0xF0 }) [])
    (fun t => (t.cpu.a, t.cpu.f, t.cpu.pc, t.cpu.ticks)) = some (0x1F, 0x00, 0xC002, 8) := by decide
/-- SRL (HL) -/
theorem test_V128 : look (start [0xCB, 0x3E] (fun c => { c with h := 0xC1, l := 0x00, f := 0x00 }) [(0xC100, 0xFE)])
    (fun t => (t.cpu.f, t.cpu.pc, t.busValue 0xC100, t.cpu.ticks)) = some (0x00, 0xC002, 0x7F, 16) := by decide
/-- BIT 7,H -/
theorem test_V129 : look (start [0xCB, 0x7C] (fun c => { c with h := 0x80, f := 0x10 }) [])
    (fun t => (t.cpu.f, t.cpu.pc, t.cpu.ticks)) = some (0x30, 0xC002, 8) := by decide
/-- BIT 3,(HL) -/
theorem test_V131 : look (start [0xCB, 0x5E] (fun c => { c with h := 0xC1, l := 0x00, f := 0x00 }) [(0xC100, 0x08)])
    (fun t => (t.cpu.f, t.cpu.pc, t.cpu.ticks)) = some (0x20, 0xC002, 12) := by decide
/-- RES 0,A -/
theorem test_V132 : look (start [0xCB, 0x87] (fun c => { c with a := 0xFF, f := 0xF0 }) [])
    (fun t => (t.cpu.a, t.cpu.f, t.cpu.pc, t.cpu.ticks)) = some (0xFE, 0xF0, 0xC002, 8) := by decide
/-- RES 7,(HL) -/
theorem test_V133 : look (start [0xCB, 0xBE] (fun c => { c with h := 0xC1, l := 0x00 }) [(0xC100, 0x7F)])
    (fun t => (t.cpu.f, t.cpu.pc, t.busValue 0xC100, t.cpu.ticks)) = some (0xB0, 0xC002, 0x7F, 16) := by decide
/-- SET 7,(HL) -/
theorem test_V134 : look (start [0xCB, 0xFE] (fun c => { c with h := 0xC1, l := 0x00 }) [(0xC100, 0x00)])
    (fun t => (t.cpu.f, t.cpu.pc, t.busValue 0xC100, t.cpu.ticks)) = some (0xB0, 0xC002, 0x80, 16) := by decide
/-- SET 4,E -/
theorem test_V135 : look (start [0xCB, 0xE3] (fun c => { c with e := 0x00, f := 0x00 }) [])
    (fun t => (t.cpu.e, t.cpu.f, t.cpu.pc, t.cpu.ticks)) = some (0x10, 0x00, 0xC002, 8) := by decide
/-- JP 0x0150 -/
theorem test_V140 : look (start [0xC3, 0x50, 0x01] (id) [])
    (fun t => (t.cpu.f, t.cpu.pc, t.cpu.ticks)) = some (0xB0, 0x0150, 16) := by decide
/-- JP NZ,0x8000 -/
theorem test_V141 : look (start [0xC2, 0x00, 0x80] (fun c => { c with f := 0x80 }) [])
    (fun t => (t.cpu.f, t.cpu.pc, t.cpu.ticks)) = some (0x80, 0xC003, 12) := by decide
/-- JP C,0x8000 -/
theorem test_V142 : look (start [0xDA, 0x00, 0x80] (fun c => { c with f := 0x10 }) [])
    (fun t => (t.cpu.f, t.cpu.pc, t.cpu.ticks)) = some (0x10, 0x8000, 16) := by decide
/-- JP HL -/
theorem test_V143 : look (start [0xE9] (fun c => { c with h := 0xFF, l := 0x80 }) [])
    (fun t => (t.cpu.f, t.cpu.pc, t.cpu.ticks)) = some (0xB0, 0xFF80, 4) := by decide
/-- JR -128 -/
theorem test_V146 : look (start [0x18, 0x80] (id) [])
    (fun t => (t.cpu.f, t.cpu.pc, t.cpu.ticks)) = some (0xB0, 0xBF82, 12) := by decide
/-- JR Z,+127 -/
theorem test_V147 : look (start [0x28, 0x7F] (fun c => { c with f := 0x80 }) [])
    (fun t => (t.cpu.f, t.cpu.pc, t.cpu.ticks)) = some (0x80, 0xC081, 12) := by decide
/-- JR NC,+16 -/
theorem test_V148 : look (start [0x30, 0x10] (fun c => { c with f := 0x10 }) [])
    (fun t => (t.cpu.f, t.cpu.pc, t.cpu.ticks)) = some (0x10, 0xC002, 8) := by decide
/-- CALL 0x0200 -/
theorem test_V149 : look (start [0xCD, 0x00, 0x02] (fun c => { c with sp := 0xD000 }) [])
    (fun t => (t.cpu.f, t.cpu.sp, t.cpu.pc, t.busValue 0xCFFF, t.busValue 0xCFFE, t.cpu.ticks)) = some (0xB0, 0xCFFE, 0x0200, 0xC0, 0x03, 24) := by decide
/-- CALL Z,0x0200 -/
theorem test_V150 : look (start [0xCC, 0x00, 0x02] (fun c => { c with sp := 0xD000, f := 0x00 }) [])
    (fun t => (t.cpu.f, t.cpu.pc, t.cpu.ticks)) = some (0x00, 0xC003, 12) := by decide
/-- CALL NC,0x0200 -/
theorem test_V151 : look (start [0xD4, 0x00, 0x02] (fun c => { c with sp := 0xD000, f := 0x00 }) [])
    (fun t => (t.cpu.f, t.cpu.sp, t.cpu.pc, t.busValue 0xCFFF, t.busValue 0xCFFE, t.cpu.ticks)) = some (0x00, 0xCFFE, 0x0200, 0xC0, 0x03, 24) := by decide
/-- RET -/
theorem test_V152 : look (start [0xC9] (fun c => { c with sp := 0xCFFE }) [(0xCFFE, 0x53), (0xCFFF, 0x01)])
    (fun t => (t.cpu.f, t.cpu.sp, t.cpu.pc, t.cpu.ticks)) = some (0xB0, 0xD000, 0x0153, 16) := by decide
/-- RET NZ -/
theorem test_V153 : look (start [0xC0] (fun c => { c with sp := 0xCFFE, f := 0x80 }) [(0xCFFE, 0x53), (0xCFFF, 0x01)])
    (fun t => (t.cpu.f, t.cpu.pc, t.cpu.ticks)) = some (0x80, 0xC001, 8) := by decide
/-- RET C -/
theorem test_V154 : look (start [0xD8] (fun c => { c with sp := 0xCFFE, f := 0x10 }) [(0xCFFE, 0x53), (0xCFFF, 0x01)])
    (fun t => (t.cpu.f, t.cpu.sp, t.cpu.pc, t.cpu.ticks)) = some (0x10, 0xD000, 0x0153, 20) := by decide
/-- RETI -/
theorem test_V155 : look (start [0xD9] (fun c => { c with sp := 0xCFFE, ime := false }) [(0xCFFE, 0x34), (0xCFFF, 0x02)])
    (fun t => (t.cpu.f, t.cpu.sp, t.cpu.ime, t.cpu.pc, t.cpu.ticks)) = some (0xB0, 0xD000, true, 0x0234, 16) := by decide
/-- RST 0x38 -/
theorem test_V156 : look (start [0xFF] (fun c => { c with sp := 0xD000 }) [])
    (fun t => (t.cpu.f, t.cpu.sp, t.cpu.pc, t.busValue 0xCFFF, t.busValue 0xCFFE, t.cpu.ticks)) = some (0xB0, 0xCFFE, 0x0038, 0xC0, 0x01, 16) := by decide
/-- NOP -/
theorem test_V160 : look (start [0x00] (id) [])
    (fun t => (t.cpu.f, t.cpu.pc, t.cpu.ticks)) = some (0xB0, 0xC001, 4) := by decide
/-- HALT -/
theorem test_V161 : look (start [0x76] (id) [])
    (fun t => (t.cpu.f, t.cpu.pc, t.cpu.runState, t.cpu.ticks)) = some (0xB0, 0xC001, .halted, 4) := by decide
/-- STOP -/
theorem test_V162 : look (start [0x10, 0x00] (id) [])
    (fun t => (t.cpu.f, t.cpu.pc, t.cpu.runState, t.cpu.ticks)) = some (0xB0, 0xC002, .stopped, 4) := by decide
/-- DI -/
theorem test_V163 : look (start [0xF3] (fun c => { c with ime := true }) [])
    (fun t => (t.cpu.f, t.cpu.ime, t.cpu.pc, t.cpu.ticks)) = some (0xB0, false, 0xC001, 4) := by decide
/-- EI -/
theorem test_V164 : look (start [0xFB] (fun c => { c with ime := false }) [])
    (fun t => (t.cpu.f, t.cpu.ime, t.cpu.pc, t.cpu.eiPending, t.cpu.ticks)) = some (0xB0, false, 0xC001, true, 4) := by decide
/-- illegal -/
theorem test_V165 : look (start [0xD3] (id) [])
    (fun t => (t.cpu.pc, t.cpu.runState, t.cpu.ticks)) = some (0xC000, .faulted (.unimplementedInstruction 0xD3 0xC000), 0) := by decide

/-! ### Interrupts (95 section 9.1) -/

/-- Code at 0xC000 with `IME`, `IE`, `IF` and `SP` as given. -/
def armed (code : List Byte) (ime : Bool) (ie irq : Byte) (sp : Word) : State :=
  start code (fun c => { c with ime := ime, sp := sp }) [(0xFFFF, ie), (0xFF0F, irq)]

/-- What a dispatch shows. -/
def dispatched (t : State) : (Word × Word × Bool) × (Byte × Byte × Byte) × Nat :=
  ((t.cpu.sp, t.cpu.pc, t.cpu.ime), (t.busValue 0xCFFF, t.busValue 0xCFFE, t.io ioIF), t.cpu.ticks)

theorem test_I1 : look (armed [0x00] true 0x1F 0x1F 0xD000) dispatched =
    some ((0xCFFE, 0x0040, false), (0xC0, 0x01, 0x1E), 24) := by decide
theorem test_I2 : look (armed [0x00] true 0x14 0x1C 0xD000) dispatched =
    some ((0xCFFE, 0x0050, false), (0xC0, 0x01, 0x18), 24) := by decide
theorem test_I3 : look (armed [0x00] false 0x14 0x1C 0xD000) (fun t => (t.cpu.pc, t.cpu.ticks, t.io ioIF)) =
    some (0xC001, 4, 0x1C) := by decide
theorem test_I5 : look (armed [0x00] true 0xFF 0xE0 0xD000) (fun t => (t.cpu.pc, t.cpu.ticks, t.io ioIF)) =
    some (0xC001, 4, 0xE0) := by decide
theorem test_I7b : look (armed [0x76, 0x04] true 0x04 0x04 0xD000) dispatched =
    some ((0xCFFE, 0x0050, false), (0xC0, 0x01, 0x00), 24) := by decide
theorem test_I8 : look ((armed [0xE0, 0x0F] true 0x01 0x00 0xD000).onCpu fun c => { c with a := 0x01 }) dispatched =
    some ((0xCFFE, 0x0040, false), (0xC0, 0x02, 0x00), 32) := by decide
theorem test_I13 : look (armed [0x00] true 0x01 0x01 0xB000) (fun t => (t.cpu.sp, t.cpu.ime, t.cpu.pc, t.cpu.ticks,
    t.cpu.runState, t.io ioIF)) =
    some (0xAFFF, true, 0xC001, 4, .faulted (.invalidBankDispatch 0xAFFF), 0x01) := by decide

/-- A halted machine with `PC` past the `HALT`. -/
def halted (ime : Bool) (ie irq : Byte) : State :=
  (armed [0x04] ime ie irq 0xD000).onCpu fun c => { c with runState := .halted }

/-- I6, step 2: wake without a dispatch and without a tick. -/
theorem test_I6 : look (halted false 0x04 0x04) (fun t => (t.cpu.runState, t.cpu.pc, t.cpu.ticks, t.io ioIF)) =
    some (.running, 0xC000, 0, 0x04) := by decide
/-- I7, step 2: idle. -/
theorem test_I7 : look (halted true 0x04 0x00) (fun t => (t.cpu.runState, t.cpu.pc, t.cpu.ticks)) =
    some (.halted, 0xC000, 4) := by decide

/-- I12, step 2: the second of two `EI`, with a request pending: the handler is entered with nothing pending. -/
theorem test_I12 : look ((armed [0xFB] false 0x01 0x01 0xD000).onCpu fun c => { c with eiPending := true })
    (fun t => (t.cpu.pc, t.cpu.ime, t.cpu.eiPending, t.busValue 0xCFFE, t.cpu.ticks)) =
    some (0x0040, false, false, 0x01, 24) := by decide
/-- EI with IME set changes nothing (46 R294). -/
theorem test_ei_with_ime_set : look (armed [0xFB] true 0x00 0x00 0xD000)
    (fun t => (t.cpu.pc, t.cpu.ime, t.cpu.eiPending, t.cpu.ticks)) = some (0xC001, true, false, 4) := by decide
/-- STOP with enabled requests pending: none is dispatched, all state is kept (46 R292, 60 R322). -/
theorem test_stop_dispatches_nothing : look (armed [0x10, 0x00] true 0x1F 0x1F 0xD000)
    (fun t => (t.cpu.runState, t.cpu.pc, t.cpu.sp, t.cpu.ime, t.io ioIF, t.cpu.ticks)) =
    some (.stopped, 0xC002, 0xD000, true, 0x1F, 4) := by decide
/-- The step after the resume move executes the instruction after STOP, and then the test dispatches (60 R320, R322). -/
theorem test_resume_runs_the_next_instruction :
    look { (armed [0x04] true 0x01 0x01 0xD000).onCpu fun c => { c with b := 7, runState := .stopped } with
        hostPlan := [[.resumeFromStop]] } (fun t => ((t.cpu.runState, t.cpu.b, t.cpu.pc), t.busValue 0xCFFE, t.cpu.ticks)) =
    some ((.running, 8, 0x0040), 0x01, 24) := by decide

/-! ### The bus and the cartridge (95 section 9.2) -/

/-- What a write leaves. -/
def stored (a : Word) (v : Byte) (s : State) : State :=
  match writeByte a v s with
  | .ok _ t => t
  | .stop _ t => t

/-- The MBC1 cartridge of 95 section 9.2. -/
def mbc1Cart : State :=
  { State.reset with
    cart := { mbc := .mbc1, romCode := 1, ramCode := 2 }
    mem := { State.reset.mem with rom := [(0x4000, 0x11), (0x8000, 0x22), (0xC000, 0x33)], eram := [(0, 0x00)] } }

/-- M1 to M4b. -/
theorem test_M1_M4 : ([0x01, 0x00, 0x02, 0x03, 0x04, 0x20] : List Byte).map
    (fun v => let t := stored 0x2000 v mbc1Cart; (t.mbc.romBank, t.busValue 0x4000)) =
    [(1, 0x11), (1, 0x11), (2, 0x22), (3, 0x33), (4, 0x00), (1, 0x11)] := by decide
/-- M5, M6. -/
theorem test_M5_M6 : mbc1Cart.busValue 0xA000 = 0xFF ∧ stored 0xA000 0x55 mbc1Cart = mbc1Cart := by decide
/-- M7, M8. -/
theorem test_M7_M8 :
    let s := stored 0xA000 0x55 (stored 0x0000 0x0A mbc1Cart)
    s.mbc.ramEnable = true ∧ s.cell .eram 0 = 0x55 ∧ s.mbc.dirty = true ∧
    (stored 0x0000 0x1B s).busValue 0xA000 = 0xFF ∧ (stored 0x0000 0xFA s).busValue 0xA000 = 0x55 := by decide
/-- The RAM bank of the paragraph after M9. -/
theorem test_M9_ram_bank : stored 0xA000 0x77 (stored 0x4000 0x02 (stored 0x6000 0x01 (stored 0x0000 0x0A
    { mbc1Cart with cart := { mbc1Cart.cart with ramCode := 3 } }))) =
    { mbc1Cart with
      cart := { mbc1Cart.cart with ramCode := 3 }
      mem := { mbc1Cart.mem with eram := [(0, 0x00), (0x4000, 0x77)] }
      mbc := { ramEnable := true, romBank := 1, ramBank := 2, mode := true, dirty := true } } := by decide
/-- M11. -/
theorem test_M11 : look (start [0xE0, 0x46] (fun c => { c with a := 0xA0 }) [])
    (fun t => (t.io ioDMA, t.cpu.runState, t.cpu.pc, t.cpu.ticks, t.mem.oam.length)) =
    some (0xA0, .faulted (.invalidBankDispatch 0xA000), 0xC002, 0, 0) := by decide
/-- M12. -/
theorem test_M12 : (stored 0xC123 0x12 State.reset).busValue 0xE123 = 0x12 ∧
    (stored 0xFDFF 0x34 State.reset).busValue 0xDDFF = 0x34 := by decide
/-- M14 to M16. -/
theorem test_M14_M16 : (stored 0xFF41 0xFF State.reset).io ioSTAT = 0xF9 ∧
    (stored 0xFF44 0x55 State.reset).io ioLY = 0x90 ∧ (stored 0xFF26 0x0F State.reset).io ioNR52 = 0x00 ∧
    (stored 0xFF26 0x8F State.reset).io ioNR52 = 0x80 := by decide
/-- M17. -/
theorem test_M17 : (stored 0xFF00 0x30 State.reset).busValue 0xFF00 = 0xFF ∧
    (let s := (stored 0xFF00 0x10 State.reset).setButton .start true
     s.busValue 0xFF00 = 0xD7 ∧ s.io ioIF = 0x10 ∧ (stored 0xFF00 0x20 s).busValue 0xFF00 = 0xEF) := by decide

/-! ### Devices (95 sections 9.3 to 9.5) -/

/-- T1: from TIMA = FF, one tick before the period is over, to the reload and the request. -/
theorem test_T1 : let s := (((State.reset.setIo ioTAC 0x05).setIo ioTIMA 0xFF).setIo ioTMA 0xAB)
    let t := ({ s with timer := { s.timer with timaAcc := 15 } }).timerStep
    (t.io ioTIMA, t.io ioIF, t.timer.timaAcc) = (0xAB, 0x04, 0) := by decide
/-- T3: a switch to a shorter period with a larger accumulated count. -/
theorem test_T3 : let s := State.reset.setIo ioTAC 0x05
    look { s with timer := { s.timer with timaAcc := 40 } } (fun t => (t.io ioTIMA, t.timer.timaAcc)) =
    some (0x01, 3) := by decide
/-- A video unit at a point of its cycle. -/
def videoAt (mode : VideoMode) (modeTicks : Nat) (ly stat : Byte) : State :=
  let s := (State.reset.setIo ioLY ly).setIo ioSTAT stat
  { s with video := { s.video with mode := mode, modeTicks := modeTicks } }
/-- What a video step shows. -/
def shown (t : State) : Byte × Byte × Byte × Nat := (t.io ioLY, t.io ioSTAT, t.io ioIF, t.video.notifications)
/-- D12, D16, D18, D19, D21: the tick before each event. -/
theorem test_D12_D21 :
    shown (videoAt .vblank 499 144 0x81).videoStep = (145, 0x81, 0x00, 0) ∧
    shown (videoAt .vblank 4559 153 0x81).videoStep = (0, 0x86, 0x00, 0) ∧
    shown (videoAt .transfer 171 0 0x87).videoStep = (0, 0x84, 0x00, 0) ∧
    shown (videoAt .hblank 203 0 0x84).videoStep = (1, 0x82, 0x00, 0) ∧
    shown (videoAt .hblank 203 143 0x80).videoStep = (144, 0x81, 0x01, 1) := by decide
/-- D24: entry to OAM-search with STAT bit 5, entry to H-blank with STAT bit 3. -/
theorem test_D24 : shown (videoAt .vblank 4559 153 0xA9).videoStep = (0, 0xAE, 0x02, 0) ∧
    shown (videoAt .transfer 171 0 0xAF).videoStep = (0, 0xAC, 0x02, 0) := by decide
/-- G1: tile decoding. -/
theorem test_G1 : let s := { State.reset with mem := { State.reset.mem with
      vram := [(0x10, 0x3C), (0x11, 0x7E), (0x20, 0xF0), (0x21, 0xC0)] } }
    (List.range 8).map (s.tilePixel 0x8010 0) = [0, 2, 3, 3, 3, 3, 2, 0] ∧
    (List.range 8).map (s.tilePixel 0x8020 0) = [3, 3, 1, 1, 0, 0, 0, 0] := by decide
/-- G2: the first two framebuffer bytes of a background line. -/
theorem test_G2 : let s := { State.reset.setIo ioBGP 0xE4 with mem := { (State.reset.setIo ioBGP 0xE4).mem with
      vram := [(0x10, 0x3C), (0x11, 0x7E), (0x1800, 0x01)] } }
    s.packedPixels [] 0 0 = 0xF8 ∧ s.packedPixels [] 0 1 = 0x2F := by decide
/-- G3: a sprite over colour index 0, not flipped and flipped. -/
theorem test_G3 : let s := ((State.reset.setIo ioBGP 0xE4).setIo ioOBP0 0xE4).setIo ioLCDC 0x93
    let t := { s with mem := { s.mem with
      vram := [(0x00, 0x00), (0x01, 0x00), (0x10, 0xF0), (0x11, 0xC0), (0x1800, 0x00)] } }
    let o (attr : Byte) : List Sprite := [{ sy := 16, sx := 8, tile := 1, attr := attr }]
    t.packedPixels (o 0x00) 0 0 = 0x5F ∧ t.packedPixels (o 0x20) 0 0 = 0x00 ∧ t.packedPixels (o 0x20) 0 1 = 0xF5 := by
  decide
/-- 60 R364: a sweep past the 11-bit range disables channel 1. -/
theorem test_sweep_overflow : let s := State.reset.setIo ioNR10 0x11
    let t := ({ s with audio := { s.audio with
      sweepEnabled := true, sweepTimer := 1, shadowFreq := 0x7FF
      ch1 := { s.audio.ch1 with enabled := true } } }).sweepClock
    (t.audio.ch1.enabled, t.audio.shadowFreq, t.io ioNR52) = (false, 0x7FF, 0xF0) := by decide
/-- 60 R363, R365: one envelope step up, one duty step. -/
theorem test_envelope_and_duty : let s := (State.reset.setIo ioNR22 0x59).setIo ioNR24 0x07
    let ch : Channel := { Channel.reset with volume := 5, envTimer := 1, freqTimer := 1, dutyPos := 7 }
    let t := ({ s with audio := { s.audio with ch2 := ch } })
    (t.envelopeClock .two).audio.ch2.volume = 6 ∧ (t.waveClock .two).audio.ch2.dutyPos = 0 ∧
    (t.waveClock .two).audio.ch2.freqTimer = 4 := by decide

/-! ### Boot and stops (95 sections 9.0, 9.6) -/

/-- B1, B2. -/
theorem test_B1_B2 : (State.reset.boot goodImage).state?.map (fun t => (t.cpu, t.cart.mbc, t.io ioLY, t.busValue 0xFF00)) =
      some (Cpu.reset, .noMbc, 0x90, 0xCF) ∧
    (State.reset.boot { goodImage with rom := [(0x147, 0x03)] }).state?.map (fun t => (t.cart.mbc, t.mbc)) =
      some (.mbc1, MbcRegs.reset) := by decide
/-- X2. -/
theorem test_X2 : look (State.reset.withFetchWord 24 0x00FA00) (fun t => (t.cpu.pc, t.cpu.a)) = some (0x0103, 0x00) ∧
    look (start [0xFA, 0x00, 0xA0] id []) (fun t => (t.cpu.pc, t.cpu.a, t.cpu.ticks, t.cpu.runState)) =
      some (0xC003, 0x01, 0, .faulted (.invalidBankDispatch 0xA000)) := by decide
/-- X4, X5: the stop at boot, and the answer of a step afterwards. -/
theorem test_X4_X5 : (State.reset.boot { goodImage with rom := [(0x147, 0x05)] }).state?.map (fun t => t.cpu.runState) =
      some (.faulted (.unsupportedCartridgeType 0x05)) ∧
    step (State.reset.raise (.unsupportedCartridgeType 0x05)) = .fault (.unsupportedCartridgeType 0x05) := ⟨by decide, rfl⟩
/-- A loader that breaks its preconditions is refused (log 17). -/
theorem test_refused_image :
    step { State.reset with hostPlan := [[.boot { goodImage with romSize := 1 }]] } = .refused .illFormedCartridge := rfl

/-! ### Witnesses: for every statement with hypotheses, a state and operands that meet them, at the ends of their ranges -/

/-- A machine about to run code at 0xC000, `HL` and `SP` as given. -/
def wit (hl sp : Word) : State := start [0x00] (fun c => { c.setHl hl with sp := sp }) []
/-- The same with a byte in the DMA register. -/
def witDma (hl : Word) (v : Byte) : State := (wit hl 0xD000).setIo ioDMA v

theorem test_witness_EncodeAfterDecode : decode [0xCD, 0x34, 0x12, 0x00] = .instr (.call_a16 0x1234) [0x00] := by decide
theorem test_witness_StepRunsDecodedInstruction :
    let s := start [0xDD] id []
    let u := armed [0x00] true 0x01 0x01 0xD000
    let v := armed [0x00] true 0x01 0x01 0xB000
    (s.hostPlan = [] ∧ s.cpu.runState = .running ∧
      readRun 1 s.cpu.pc (s.onCpu Cpu.consumeEi) = .ok (encode .illegal_DD) s ∧
      (Answer.state? (exec .illegal_DD s)).map State.isFaulted = some true) ∧
    (u.hostPlan = [] ∧ u.cpu.runState = .running ∧
      readRun 1 u.cpu.pc (u.onCpu Cpu.consumeEi) = .ok (encode .nop) u ∧
      (Answer.state? (exec .nop u)).map (fun t => (t.isFaulted, match testInterrupts t with | .ok _ _ => true | .stop _ _ => false)) =
        some (false, true) ∧ (Answer.state? (exec .nop u)).map (fun t => t.cpu.runState) = some .running) ∧
    (let w := armed [0x10, 0x5A] true 0x01 0x01 0xD000
     w.hostPlan = [] ∧ w.cpu.runState = .running ∧
      readRun 2 w.cpu.pc (w.onCpu Cpu.consumeEi) = .ok (encode (.stop 0x5A)) w ∧
      (Answer.state? (exec (.stop 0x5A) w)).map (fun t => t.cpu.runState) = some .stopped) ∧
    (v.hostPlan = [] ∧ v.cpu.runState = .running ∧
      readRun 1 v.cpu.pc (v.onCpu Cpu.consumeEi) = .ok (encode .nop) v ∧
      (Answer.state? (exec .nop v)).map (fun t => (t.isFaulted, match testInterrupts t with | .ok _ _ => true | .stop _ _ => false)) =
        some (false, false) ∧ (Answer.state? (exec .nop v)).map (fun t => t.cpu.runState) = some .running) := by decide
theorem test_witness_StopsAtFetch :
    (let s := start [0xFD] id []
     s.hostPlan = [] ∧ s.cpu.runState = .running ∧ s.backed s.cpu.pc = true ∧
       s.busValue s.cpu.pc = IllegalOp.xFD.byte) ∧
    (let s := State.reset.onCpu fun c => c.setPc 0xA000
     let t := State.reset.onCpu fun c => c.setPc 0xBFFF
     s.hostPlan = [] ∧ s.cpu.runState = .running ∧ s.backed s.cpu.pc = false ∧ t.backed t.cpu.pc = false) := by decide
/-- The ends of the region that is not backed, and its neighbours. -/
theorem test_witness_LoadsFromMemory :
    [0x9FFF#16, 0xA000#16, 0xBFFF#16, 0xC000#16].map State.reset.backed = [true, false, false, true] ∧
    (let s := State.reset.onCpu fun c => { c with b := 0xA0, d := 0xBF, h := 0xA0 }
     [s.cpu.bc, s.cpu.de, s.cpu.hl].map s.backed = [false, false, false]) ∧
    [highPage 0x00, highPage 0xFF].map State.reset.backed = [true, true] := by decide
theorem test_witness_Stores :
    (wit 0xC100 0xD000).storeReady 0xC100 0x00 = true ∧ (wit 0xFF46 0xD000).storeReady 0xFF46 0xC1 = true ∧
    writeByte 0xA000 0x01 ((wit 0xA000 0xD000).advanced 1) =
      .stop (.invalidBankDispatch 0xA000) ((wit 0xA000 0xD000).advanced 1) ∧
    writeByte 0xFF46 0xA0 ((wit 0 0xD000).advanced 2) =
      .stop (.invalidBankDispatch 0xA000) (((wit 0 0xD000).advanced 2).setIo ioDMA 0xA0) ∧
    ((wit 0 0xD000).storeReady 0x9FFF 0x00 = true ∧ (wit 0 0xD000).storeReady 0xA000 0xD0 = false ∧
      (wit 0 0xD000).storeReady 0xC300 0x00 = true ∧ (wit 0 0xD000).storeReady 0xC301 0xD0 = true) := by decide +kernel
theorem test_witness_PushesAndPops :
    let ready (sp : Word) := ((wit 0 sp).storeReady (sp - 1) 0xAB, (wit 0 sp).storeReady (sp - 2) 0xCD)
    let held (sp : Word) := ((wit 0 sp).backed sp, (wit 0 sp).backed (sp + 1))
    ready 0xD000 = (true, true) ∧ ready 0xB000 = (false, false) ∧ ready 0xC001 = (true, false) ∧
    held 0xC000 = (true, true) ∧ held 0xA000 = (false, false) ∧ held 0x9FFF = (true, false) := by decide
theorem test_witness_PopAfterPush : [0xD000#16, 0xFFFF#16, 0xE001#16].map (fun sp =>
    (((wit 0 sp).plainCell (sp - 1)).isSome, ((wit 0 sp).plainCell (sp - 2)).isSome)) =
    [(true, true), (true, true), (true, true)] := by decide
theorem test_witness_AluForms : (wit 0xC100 0).backed (wit 0xC100 0).cpu.hl = true ∧
    (wit 0xA000 0).backed (wit 0xA000 0).cpu.hl = false := by decide
theorem test_witness_IncrementsAndDecrements :
    let s := wit 0xFF80 0xD000
    let t := s.setCell .hram 0 0xFF
    (t.storeReady t.cpu.hl (specInc (t.busValue t.cpu.hl)) = true ∧
      t.storeReady t.cpu.hl (specDec (t.busValue t.cpu.hl)) = true) ∧
    (let u := witDma 0xFF46 0x9F
     u.backed u.cpu.hl = true ∧ specInc (u.busValue u.cpu.hl) = 0xA0 ∧ u.dmaReady 0xA0 = false) ∧
    (let u := witDma 0xFF46 0xA1
     u.backed u.cpu.hl = true ∧ specDec (u.busValue u.cpu.hl) = 0xA0 ∧ u.dmaReady 0xA0 = false) ∧
    (wit 0xBFFF 0).backed (wit 0xBFFF 0).cpu.hl = false := by decide +kernel
theorem test_witness_DecimalArithmetic :
    (State.reset.onCpu fun c => { c with a := 0x99 }).cpu.a = bcd 99 ∧ (0 : Nat) < 100 ∧ (99 : Nat) < 100 := by decide
theorem test_witness_RotatesAndBitsOfMemory :
    let s := (wit 0xFF80 0xD000).setCell .hram 0 0x81
    (s.storeReady s.cpu.hl (specRot .rlc (s.busValue s.cpu.hl).toNat 1) = true) ∧
    (∀ j, j < 8 → bit 0x01 j = (decide (j ≠ 7) && bit (s.busValue s.cpu.hl) j)) ∧
    (∀ j, j < 8 → bit 0x91 j = (decide (j = 4) || bit (s.busValue s.cpu.hl) j)) ∧
    (let u := witDma 0xFF46 0x50
     u.backed u.cpu.hl = true ∧ specRot .rlc (u.busValue u.cpu.hl).toNat 1 = 0xA0 ∧ u.dmaReady 0xA0 = false) ∧
    (wit 0xA000 0).backed (wit 0xA000 0).cpu.hl = false := by decide +kernel
theorem test_witness_BitInstructions : (wit 0xFFFF 0).backed (wit 0xFFFF 0).cpu.hl = true ∧
    (wit 0xBFFF 0).backed (wit 0xBFFF 0).cpu.hl = false := by decide
theorem test_witness_Calls : specCond .nz 0x00 = true ∧ specCond .nz 0x80 = false ∧
    (wit 0 0xD000).storeReady 0xCFFF 0xC0 = true ∧ (wit 0 0xD000).storeReady 0xCFFE 0x03 = true ∧
    (wit 0 0xB000).storeReady 0xAFFF 0xC0 = false ∧
    ((wit 0 0xC001).storeReady 0xC000 0xC0 = true ∧ (wit 0 0xC001).storeReady 0xBFFF 0x03 = false) := by decide
theorem test_witness_Returns : specCond .c 0x10 = true ∧ specCond .c 0xE0 = false ∧
    ((wit 0 0xC000).backed 0xC000 = true ∧ (wit 0 0xC000).backed 0xC001 = true) ∧
    (wit 0 0xA000).backed 0xA000 = false ∧
    ((wit 0 0x9FFF).backed 0x9FFF = true ∧ (wit 0 0x9FFF).backed 0xA000 = false) := by decide
theorem test_witness_SystemInstructions : State.reset.cfg.eiDelay = true ∧ State.reset.cpu.ime = false ∧
    (armed [0xFB] true 0 0 0).cpu.ime = true ∧
    ({ State.reset with cfg := { State.reset.cfg with eiDelay := false } } : State).cfg.eiDelay = false := by decide
theorem test_witness_EiActsOneInstructionLate :
    let s := armed [0xFB] false 0x1F 0x1F 0xD000
    let u := armed [0xFB] true 0x1F 0x1F 0xD000
    let v := s.onCpu fun c => { c with eiPending := true }
    (s.hostPlan = [] ∧ s.cpu.runState = .running ∧ s.backed s.cpu.pc = true ∧ s.busValue s.cpu.pc = 0xFB ∧
      s.cfg.eiDelay = true ∧ s.cpu.ime = false ∧ s.cpu.eiPending = false) ∧
    (u.hostPlan = [] ∧ u.cpu.runState = .running ∧ u.backed u.cpu.pc = true ∧ u.busValue u.cpu.pc = 0xFB ∧
      u.cpu.ime = true) ∧
    (v.hostPlan = [] ∧ v.cpu.runState = .running ∧ v.backed v.cpu.pc = true ∧ v.busValue v.cpu.pc = 0xFB ∧
      v.cpu.eiPending = true) := by decide
theorem test_witness_NonStoringFrame : storedAddresses (.cp_d8 0x40) (wit 0 0) = [] ∧
    (Answer.state? (exec (.cp_d8 0x40) (wit 0 0))).isSome = true ∧ regionOf 0xFE9F ≠ .unusable := by decide +kernel
theorem test_witness_StoringFrame :
    (Answer.state? (exec .push_BC (wit 0 0xD000))).isSome = true ∧
    storedAddresses .push_BC (wit 0 0xD000) = [0xCFFF, 0xCFFE] ∧
    (wit 0 0xD000).plainCell 0xCFFF ≠ some (.wram, 0x1000) ∧ (wit 0 0xD000).plainCell 0xCFFE ≠ some (.wram, 0x1000) ∧
    storedAddresses (.ldh_atA8_A 0x46) (wit 0 0xD000) = [0xFF46] := by decide
theorem test_witness_StoringFrameByAddress :
    (Answer.state? (exec .push_BC (wit 0 0xD000))).isSome = true ∧
    storedAddresses .push_BC (wit 0 0xD000) = [0xCFFF, 0xCFFE] ∧
    [0xCFFF#16, 0xCFFE#16, 0xD000#16].map (wit 0 0xD000).plainCell =
      [some (.wram, 0xFFF), some (.wram, 0xFFE), some (.wram, 0x1000)] ∧
    regionOf 0xD000 ≠ .unusable := by decide
theorem test_witness_CpuFrames : (Answer.state? (exec .nop (wit 0 0))).isSome = true ∧ writesFlags .nop = false ∧
    writesSp .nop = false ∧ Instr.nop ≠ .di ∧ Instr.nop ≠ .ei ∧ Instr.nop ≠ .reti ∧ Instr.nop ≠ .halt := by decide
theorem test_witness_TicksOfInstructions : (wit 0 0xD000).isFaulted = false ∧
    (Answer.state? (exec (.call_a16 0x0200) (wit 0 0xD000))).map (fun t => (t.isFaulted, t.cpu.ticks)) = some (false, 24) := by decide
theorem test_witness_NothingWritesRom : (Answer.state? (exec (.ld_atA16_A 0x2000) mbc1Cart)).isSome = true := by decide
theorem test_witness_StorageRegions :
    [0x8000#16, 0x9FFF#16, 0xC000#16, 0xDFFF#16, 0xE000#16, 0xFDFF#16, 0xFE00#16, 0xFE9F#16, 0xFEA0#16, 0xFEFF#16, 0xFF80#16,
     0xFFFE#16, 0xFFFF#16].map regionOf =
    [.vram, .vram, .wram, .wram, .echo, .echo, .oam, .oam, .unusable, .unusable, .hram, .hram, .ie] ∧
    State.reset.cfg.unusableRead = none ∧
    ({ State.reset with cfg := { State.reset.cfg with unusableRead := some 0xFF } } : State).cfg.unusableRead = some 0xFF := by
  decide
theorem test_witness_RomSpace : [0x0000#16, 0x3FFF#16, 0x4000#16, 0x7FFF#16].map regionOf =
      [.romFixed, .romFixed, .romSwitched, .romSwitched] ∧
    State.reset.cart.mbc = .noMbc ∧ mbc1Cart.cart.mbc ≠ .noMbc := by decide
/-- The ends of the four windows, and the values on both sides of the zero test. -/
theorem test_witness_Mbc1Windows : mbc1Cart.cart.mbc = .mbc1 ∧ mbc1Cart.mbc.mode = false ∧
    (stored 0x6000 0x01 mbc1Cart).mbc.mode = true ∧
    [0x0000#16, 0x1FFF#16, 0x2000#16, 0x3FFF#16, 0x4000#16, 0x5FFF#16, 0x6000#16, 0x7FFF#16].map
      (fun a => (stored a 0x2A mbc1Cart).mbc) =
    [{ MbcRegs.reset with ramEnable := true }, { MbcRegs.reset with ramEnable := true },
     { MbcRegs.reset with romBank := 10 }, { MbcRegs.reset with romBank := 10 },
     { MbcRegs.reset with romBank := 0x41 }, { MbcRegs.reset with romBank := 0x41 }, MbcRegs.reset, MbcRegs.reset] := by
  decide
theorem test_witness_ExternalRam : State.reset.cart.ramSize = 0 ∧ mbc1Cart.cart.ramSize ≠ 0 ∧ mbc1Cart.cart.mbc = .mbc1 ∧
    mbc1Cart.mbc.ramEnable = false ∧ (stored 0x0000 0x0A mbc1Cart).mbc.ramEnable = true ∧
    (let s := { State.reset with cart := { State.reset.cart with ramCode := 2 } }
     s.cart.ramSize ≠ 0 ∧ s.cart.mbc = .noMbc) ∧
    [0xA000#16, 0xBFFF#16].map regionOf = [.eram, .eram] := by decide
theorem test_witness_IoWrites : (0 < 128 ∧ 0 ∉ [0x04, 0x11, 0x14, 0x16, 0x19, 0x26, 0x41, 0x44, 0x46]) ∧
    (127 < 128 ∧ 127 ∉ [0x04, 0x11, 0x14, 0x16, 0x19, 0x26, 0x41, 0x44, 0x46] ∧ 127 ≠ 0) := by decide
theorem test_witness_DmaCopy : State.reset.cfg.dmaLength ≤ 160 ∧ State.reset.dmaReady 0xC1 = true ∧
    State.reset.dmaReady 0xFF = true ∧ 0 < State.reset.cfg.dmaLength ∧ State.reset.cart.ramSize = 0 ∧
    State.reset.dmaReady 0xA0 = false ∧ State.reset.dmaReady 0xBF = false := by decide +kernel
theorem test_witness_InterruptTest :
    State.reset.cpu.ime = false ∧ (armed [0x00] true 0xFF 0xE0 0xD000).pending = 0 ∧
    (let s := armed [0x00] true 0x10 0x1F 0xD000
     s.cpu.ime = true ∧ bit (s.mem.ie &&& s.io 0x0F) IrqLine.joypad.bitNo = true ∧
       ∀ j, j < IrqLine.joypad.bitNo → bit (s.mem.ie &&& s.io 0x0F) j = false) := by decide
theorem test_witness_InterruptDispatch :
    (match push16 0xC000 ((wit 0 0xD000).onCpu Cpu.wake) with | .ok _ _ => true | .stop _ _ => false) = true ∧
    (match push16 0xC000 ((wit 0 0xB000).onCpu Cpu.wake) with | .ok _ _ => true | .stop _ _ => false) = false := by decide
theorem test_witness_HaltedStep :
    (let s := halted true 0x1F 0xE0
     s.hostPlan = [] ∧ s.cpu.runState = .halted ∧ s.mem.ie &&& s.io 0x0F &&& 0x1F = 0) ∧
    (let s := halted false 0x04 0x04
     s.mem.ie &&& s.io 0x0F &&& 0x1F ≠ 0 ∧ s.cpu.ime = false) ∧
    (let s := halted true 0x04 0x04
     s.cpu.ime = true ∧ firstLine (s.mem.ie &&& s.io 0x0F &&& 0x1F) = some .timer ∧
       (match dispatch .timer { s with cpu := { s.cpu with runState := .running } } with
        | .ok _ _ => true | .stop _ _ => false) = true) := by decide
theorem test_witness_StoppedAndFaultedStates :
    (let s := State.reset.onCpu fun c => { c with runState := .stopped }
     s.hostPlan = [] ∧ s.cpu.runState = .stopped) ∧
    (let s := State.reset.raise (.invalidBankDispatch 0xA000)
     s.hostPlan = [] ∧ s.cpu.runState = .faulted (.invalidBankDispatch 0xA000)) ∧
    State.reset.cpu.runState ≠ .stopped := by decide
theorem test_witness_SyncDevices : let s := State.reset.onCpu fun c => c.addTicks 24
    s.timer.localTicks ≤ s.cpu.ticks ∧ s.video.localTicks ≤ s.cpu.ticks ∧ s.audio.localTicks ≤ s.cpu.ticks := by decide
theorem test_witness_DividerCounts : State.reset.cfg.divPeriod = 256 ∧ State.reset.timer.divAcc < 256 := by decide
theorem test_witness_TimaTick :
    let on := State.reset.setIo ioTAC 0x05
    let due := { on with timer := { on.timer with timaAcc := 15 } }
    bit (State.reset.io 0x07) 2 = false ∧ bit (on.io 0x07) 2 = true ∧ (on.io 0x07).toNat % 4 = 1 ∧
    on.timer.timaAcc + 1 < on.cfg.timaPeriod1 ∧ due.cfg.timaPeriod1 ≤ due.timer.timaAcc + 1 ∧ due.io 0x05 ≠ 0xFF ∧
    (due.setIo ioTIMA 0xFF).io 0x05 = 0xFF := by decide
theorem test_witness_TransferTick : (videoAt .transfer 170 0 0x83).video.mode = .transfer ∧
    (videoAt .transfer 170 0 0x83).video.modeTicks + 1 < 172 ∧
    172 ≤ (videoAt .transfer 171 0 0x83).video.modeTicks + 1 := by decide
theorem test_witness_HblankTick : (videoAt .hblank 203 143 0x80).video.mode = .hblank ∧
    (videoAt .hblank 203 143 0x80).cfg.tHblank ≤ (videoAt .hblank 203 143 0x80).video.modeTicks + 1 ∧
    (videoAt .hblank 203 143 0x80).io 0x44 = 143 ∧ (videoAt .hblank 203 142 0xA0).io 0x44 ≠ 143 ∧
    bit ((videoAt .hblank 203 142 0xA0).io 0x41) 5 = true ∧ bit ((videoAt .hblank 203 143 0x90).io 0x41) 4 = true := by
  decide
theorem test_witness_ScanlineTakes456Ticks : let s := videoAt .oamSearch 0 142 0x82
    s.cfg.tOam = 80 ∧ s.cfg.tXfer = 172 ∧ s.cfg.tHblank = 204 ∧ s.video.mode = .oamSearch ∧ s.video.modeTicks = 0 ∧
    (s.io 0x44).toNat < 143 := by decide
theorem test_witness_RenderedLine : (143 : Nat) < 144 ∧ (159 : Nat) < 160 ∧ 143 * 40 + 40 ≤ 5760 ∧ 5719 < 143 * 40 ∧
    bit ((State.reset.setIo ioLCDC 0x91).io 0x40) 1 = false := by decide
theorem test_witness_TriggerAndLength : bit 0x80 7 = true ∧
    (let s := State.reset.setIo ioNR24 0x40
     let at1 (n : Nat) := { s with audio := { s.audio with ch2 := { s.audio.ch2 with length := n } } }
     bit (s.io (nr .two 4)) 6 = true ∧ (s.chan .two).length = 0 ∧ 1 < ((at1 2).chan .two).length ∧
       ((at1 1).chan .two).length = 1) := by decide
theorem test_witness_HostMoves : State.reset.isFaulted = false ∧ State.reset.buttons.get .start = false := by decide
theorem test_witness_CpuAfterBoot :
    (State.reset.boot goodImage).state?.map State.isFaulted = some false := by decide
theorem test_witness_BootOfACartridge : goodImage.wellFormed = true ∧
    (State.reset.cfg.cartTypeMap.find? fun e => e.1 == (goodImage.byteAt 0x147).toNat) = some (0x00, .noMbc) ∧
    (let image := { goodImage with rom := [(0x147, 0x05)] }
     image.wellFormed = true ∧
       (State.reset.cfg.cartTypeMap.find? fun e => e.1 == (image.byteAt 0x147).toNat) = none) ∧
    (let image := { goodImage with save := some [] }
     image.wellFormed = true ∧ image.save = some []) := by decide
theorem test_witness_IoAfterReset : 0x7F ∉ [0x00, 0x02, 0x10, 0x11, 0x12, 0x13, 0x14, 0x16, 0x18, 0x19, 0x24, 0x25, 0x26,
    0x40, 0x41, 0x44, 0x46, 0x47, 0x48, 0x49] := by decide
theorem test_witness_StepKeepsFlagNibbleAndBank :
    (wit 0xC100 0xD000).FlagsInv ∧ (wit 0xC100 0xD000).BankInv ∧ (step (wit 0xC100 0xD000)).state?.isSome = true := by
  refine ⟨by unfold State.FlagsInv; decide, by unfold State.BankInv; decide, by decide⟩
theorem test_witness_StepKeepsMemoryForm :
    (wit 0xC100 0xD000).cfg.wellFormed = true ∧ (wit 0xC100 0xD000).MemoryInv ∧
    (step (wit 0xC100 0xD000)).state?.isSome = true := by
  refine ⟨by decide, fun st => ?_, by decide⟩
  cases st <;> decide
theorem test_witness_StepKeepsVideoState :
    (wit 0xC100 0xD000).cfg.wellFormed = true ∧ (wit 0xC100 0xD000).VideoInv ∧
    (step (wit 0xC100 0xD000)).state?.isSome = true := by
  refine ⟨by decide, by unfold State.VideoInv; decide, by decide⟩
theorem test_witness_StepKeepsAudioState :
    (wit 0xC100 0xD000).cfg.wellFormed = true ∧ (wit 0xC100 0xD000).AudioInv ∧
    (step (wit 0xC100 0xD000)).state?.isSome = true := by
  refine ⟨by decide, by unfold State.AudioInv Channel.inRange; decide, by decide⟩
theorem test_witness_StepKeepsTickCounts :
    (wit 0xC100 0xD000).TicksInv ∧ (step (wit 0xC100 0xD000)).state?.isSome = true := by
  refine ⟨by unfold State.TicksInv; decide, by decide⟩

end Sys2Proof.Machine
end

section
/-! What a machine step keeps. A predicate kept by an instruction (`Kept`) and by the few other things a step does is
kept by the step (`StepKept.step`); one kept by writes of the I/O page, of the framebuffer and of the devices' own
fields is kept by the devices (`DeviceKept`); one kept by every write inside a store is both (`CellKept`). -/
namespace Sys2Proof.Machine

/-! ### What the devices keep -/

/-- A predicate kept by each of the few things a device does: a write inside the I/O page, a write inside the
framebuffer, a change of its own fields. -/
structure DeviceKept (Q : State → Prop) : Prop where
  io : ∀ s n v, n < 128 → Q s → Q (s.setIo n v)
  frame : ∀ s n v, n < 5760 → Q s → Q (s.setCell .framebuffer n v)
  timer : ∀ s x, Q s → Q { s with timer := x }
  video : ∀ s x, Q s → Q { s with video := x }
  audio : ∀ s x, Q s → Q { s with audio := x }

/-- The registers `NRc0` to `NRc4` lie in the I/O page (10 R32). -/
theorem nr_lt {c : Chan} {k : Nat} (h : k ≤ 4) : nr c k < 128 := by
  cases c <;> simp only [nr] <;> omega

section
variable {Q : State → Prop} (k : DeviceKept Q) {s : State}
include k

theorem DeviceKept.request (i : IrqLine) (h : Q s) : Q (s.request i) := k.io s _ _ (by decide) h
theorem DeviceKept.requestIf (b : Bool) (i : IrqLine) (h : Q s) : Q (s.requestIf b i) := by
  unfold State.requestIf; split
  · exact k.request i h
  · exact h

/-! #### The timer -/

theorem DeviceKept.dividerTick (h : Q s) : Q s.dividerTick := by
  unfold State.dividerTick; dsimp only; split
  · exact k.timer _ _ (k.io s _ _ (by decide) h)
  · exact k.timer s _ h
theorem DeviceKept.timaIncrement (h : Q s) : Q s.timaIncrement := by
  unfold State.timaIncrement; split
  · exact k.request _ (k.io s _ _ (by decide) h)
  · exact k.io s _ _ (by decide) h
theorem DeviceKept.counterTick (h : Q s) : Q s.counterTick := by
  unfold State.counterTick; split
  · split
    · exact k.timaIncrement (k.timer s _ h)
    · exact k.timer s _ h
  · exact h
theorem DeviceKept.timerStep (h : Q s) : Q s.timerStep := k.counterTick (k.dividerTick (k.timer s _ h))

/-! #### The video unit -/

theorem DeviceKept.storePixels (sprites : List Sprite) {ly count : Nat} (hl : ly < 144) (hc : count ≤ 40) (h : Q s) :
    Q (s.storePixels sprites ly count) := by
  induction count with
  | zero => exact h
  | succ count ih => exact k.frame _ _ _ (by omega) (ih (by omega))
theorem DeviceKept.renderLine (ly : Nat) (h : Q s) : Q (s.renderLine ly) := by
  unfold State.renderLine; split
  · next hl => exact k.storePixels _ hl (le_refl _) h
  · exact h
theorem DeviceKept.setMode (m : VideoMode) (h : Q s) : Q (s.setMode m) := k.io _ _ _ (by decide) (k.video s _ h)
theorem DeviceKept.setLy (v : Byte) (h : Q s) : Q (s.setLy v) := by
  have h1 : Q (s.setIo ioLY v) := k.io s _ _ (by decide) h
  unfold State.setLy; dsimp only; split
  · exact k.requestIf _ _ (k.io _ _ _ (by decide) h1)
  · exact k.io _ _ _ (by decide) h1
theorem DeviceKept.clearModeTicks (h : Q s) : Q s.clearModeTicks := k.video s _ h
theorem DeviceKept.enterMode (m : VideoMode) (b : Nat) (h : Q s) : Q (s.enterMode m b) :=
  k.requestIf _ _ (k.setMode m h)
theorem DeviceKept.enterVblank (h : Q s) : Q s.enterVblank :=
  k.requestIf _ _ (k.video _ _ (k.request .vblank (k.setMode .vblank h)))
theorem DeviceKept.oamSearchTick (h : Q s) : Q s.oamSearchTick := by
  unfold State.oamSearchTick; dsimp only; split
  · exact k.renderLine _ (k.setMode _ (k.clearModeTicks h))
  · exact h
theorem DeviceKept.transferTick (h : Q s) : Q s.transferTick := by
  unfold State.transferTick; split
  · exact k.enterMode _ _ (k.clearModeTicks h)
  · exact h
theorem DeviceKept.hblankTick (h : Q s) : Q s.hblankTick := by
  unfold State.hblankTick; dsimp only; split
  · have h1 := k.setLy (s.io ioLY + 1) (k.clearModeTicks h)
    split
    · exact k.enterVblank h1
    · exact k.enterMode _ _ h1
  · exact h
theorem DeviceKept.vblankTick (h : Q s) : Q s.vblankTick := by
  unfold State.vblankTick; split
  · exact k.enterMode _ _ (k.setLy _ (k.clearModeTicks h))
  · split
    · exact k.setLy _ h
    · exact h
theorem DeviceKept.videoStep (h : Q s) : Q s.videoStep := by
  have h1 := k.video s { s.video with localTicks := s.video.localTicks + 1, modeTicks := s.video.modeTicks + 1 } h
  unfold State.videoStep; dsimp only; split
  · exact k.oamSearchTick h1
  · exact k.transferTick h1
  · exact k.hblankTick h1
  · exact k.vblankTick h1

/-! #### The audio unit -/

theorem DeviceKept.setChan (c : Chan) (ch : Channel) (h : Q s) : Q (s.setChan c ch) := by
  cases c <;> exact k.audio s _ h
theorem DeviceKept.mirrorEnables (h : Q s) : Q s.mirrorEnables := k.io s _ _ (by decide) h
theorem DeviceKept.disable (c : Chan) (h : Q s) : Q (s.disable c) := k.mirrorEnables (k.setChan c _ h)
theorem DeviceKept.lengthClock (c : Chan) (h : Q s) : Q (s.lengthClock c) := by
  unfold State.lengthClock; dsimp only; split
  · split
    · exact k.disable c (k.setChan c _ h)
    · exact k.setChan c _ h
  · exact h
theorem DeviceKept.envelopeClock (c : Chan) (h : Q s) : Q (s.envelopeClock c) := by
  unfold State.envelopeClock; dsimp only; split
  · exact h
  · split <;> exact k.setChan c _ h
theorem DeviceKept.sweepCheck (h : Q s) : Q s.sweepCheck := by
  unfold State.sweepCheck; split
  · exact k.disable _ h
  · exact h
theorem DeviceKept.storeSweep (new : Nat) (h : Q s) : Q (s.storeSweep new) :=
  k.io _ _ _ (by decide) (k.io _ _ _ (by decide) (k.audio s _ h))
theorem DeviceKept.sweepExpire (h : Q s) : Q s.sweepExpire := by
  have h1 := k.audio s { s.audio with sweepTimer := s.sweepReload } h
  unfold State.sweepExpire; dsimp only; split
  · split
    · exact k.sweepCheck (k.storeSweep _ (k.sweepCheck h1))
    · exact k.sweepCheck h1
  · exact h1
theorem DeviceKept.sweepClock (h : Q s) : Q s.sweepClock := by
  unfold State.sweepClock; dsimp only; split
  · exact k.sweepExpire (k.audio s _ h)
  · exact k.audio s _ h
theorem DeviceKept.waveClock (c : Chan) (h : Q s) : Q (s.waveClock c) := by
  unfold State.waveClock; dsimp only; split <;> exact k.setChan c _ h
theorem DeviceKept.frameStep (fs : Fin 8) (h : Q s) : Q (s.frameStep fs) := by
  have h1 : Q ((s.lengthClock .one).lengthClock .two) := k.lengthClock _ (k.lengthClock _ h)
  have h2 : Q ((s.envelopeClock .one).envelopeClock .two) := k.envelopeClock _ (k.envelopeClock _ h)
  unfold State.frameStep
  split
  · exact h1
  · exact h1
  · exact k.sweepClock h1
  · exact k.sweepClock h1
  · exact h2
  all_goals exact h
theorem DeviceKept.frameClock (h : Q s) : Q s.frameClock := by
  unfold State.frameClock; dsimp only; split
  · exact k.audio _ _ (k.frameStep _ (k.audio s _ h))
  · exact k.audio s _ h
theorem DeviceKept.sampleClock (h : Q s) : Q s.sampleClock := by
  unfold State.sampleClock; split
  · exact h
  · split <;> exact k.audio s _ h
theorem DeviceKept.audioStep (h : Q s) : Q s.audioStep :=
  k.sampleClock (k.frameClock (k.waveClock _ (k.waveClock _ (k.audio s _ h))))

theorem DeviceKept.triggerSweep (h : Q s) : Q s.triggerSweep := by
  unfold State.triggerSweep; dsimp only; split
  · exact k.sweepCheck (k.audio s _ h)
  · exact k.audio s _ h
theorem DeviceKept.trigger (c : Chan) (h : Q s) : Q (s.trigger c) := by
  cases c
  · exact k.mirrorEnables (k.triggerSweep (k.setChan .one _ h))
  · exact k.mirrorEnables (k.setChan .two _ h)

/-! #### The synchronization, and the writes of the I/O page -/

theorem DeviceKept.syncDevices (h : Q s) : Q s.syncDevices :=
  iterate_holds (fun _ hs => k.audioStep hs) _
    (iterate_holds (fun _ hs => k.videoStep hs) _ (iterate_holds (fun _ hs => k.timerStep hs) _ h))

/-- A write to an I/O byte is a write inside the I/O page with a device's effect (20 R73 to R79). -/
theorem DeviceKept.writeIo {n : Nat} (v : Byte) (hn : n < 128) (h : Q s) : Q (s.writeIo n v) := by
  unfold State.writeIo
  split
  · exact k.timer _ _ (k.io s _ _ (by decide) h)
  · exact k.setChan _ _ (k.io s _ _ (by decide) h)
  · split
    · exact k.trigger _ (k.io s _ _ (by decide) h)
    · exact k.io s _ _ (by decide) h
  · exact k.setChan _ _ (k.io s _ _ (by decide) h)
  · split
    · exact k.trigger _ (k.io s _ _ (by decide) h)
    · exact k.io s _ _ (by decide) h
  · exact k.io s _ _ (by decide) h
  · exact k.io s _ _ (by decide) h
  · exact h
  · exact k.io s _ _ hn h

end

/-! ### What a machine step keeps -/

/-- A predicate kept by each of the few things a machine step does besides executing an instruction: the request and the
acknowledgement of an interrupt, the synchronization of the devices, the moves of the host. -/
structure StepKept (Q : State → Prop) : Prop extends Kept Q where
  irq : ∀ s v, Q s → Q (s.setIo ioIF v)
  sync : ∀ s, Q s → Q s.syncDevices
  plan : ∀ s p, Q s → Q { s with hostPlan := p }
  booted : ∀ s image mbc, image.wellFormed = true → Q s → Q (s.booted image mbc)
  buttons : ∀ s b, Q s → Q { s with buttons := b }
  ring : ∀ s r, Q s → Q { s with audio := { s.audio with ring := r } }
  dirty : ∀ s b, Q s → Q { s with mbc := { s.mbc with dirty := b } }

/-- What goes on from a next state and gives a next state. -/
theorem onNext_eq_next {x : Answer} {f : State → Answer} {t : State} (h : onNext x f = .next t) :
    ∃ u, x = .next u ∧ f u = .next t := by
  cases x with
  | next u => exact ⟨u, rfl, h⟩
  | fault r => cases h
  | refused r => cases h

section
variable {Q : State → Prop} (k : StepKept Q) {s t : State}
include k

theorem StepKept.answer {α : Type} {x : Access α} (hx : x.Holds Q) (hn : x.answer = .next t) : Q t := by
  cases x with
  | ok v u => cases hn; exact hx
  | stop info u => cases hn; exact k.stop u info hx

theorem StepKept.boot {image : CartImage} (h : Q s) (hn : s.boot image = .next t) : Q t := by
  unfold State.boot at hn
  split at hn
  · next hw =>
    split at hn
    · next mbc _ => cases hn; exact k.booted s image mbc hw h
    · cases hn; exact k.stop _ _ (k.booted s image .noMbc hw h)
  · cases hn

theorem StepKept.setButton (name : Button) (pressed : Bool) (h : Q s) : Q (s.setButton name pressed) := by
  unfold State.setButton State.requestIf; dsimp only; split
  · exact k.irq _ _ (k.buttons s _ h)
  · exact k.buttons s _ h

theorem StepKept.resumeFromStop (h : Q s) : Q s.resumeFromStop := by
  unfold State.resumeFromStop
  split
  · exact k.cpu s _ ⟨id, le_refl _, fun _ he => by cases he⟩ h
  all_goals exact h

theorem StepKept.save (success : Bool) (h : Q s) : Q (s.save success) := by
  unfold State.save; split
  · exact k.dirty s _ h
  · exact h

/-- Every move of the host keeps it (60 R390). -/
theorem StepKept.hostMove {m : HostMove} (h : Q s) (hn : hostMove m s = .next t) : Q t := by
  cases m with
  | boot image => exact k.boot h hn
  | setButton name pressed => cases hn; split <;> [exact h; exact k.setButton name pressed h]
  | resumeFromStop => cases hn; exact k.resumeFromStop h
  | drainSamples n => cases hn; split <;> [exact h; exact k.ring s _ h]
  | save success => cases hn; split <;> [exact h; exact k.save success h]

theorem StepKept.hostMoves {moves : List HostMove} (h : Q s) (hn : hostMoves moves s = .next t) : Q t := by
  induction moves generalizing s with
  | nil => cases hn; exact h
  | cons m rest ih =>
    obtain ⟨u, hm, hr⟩ := onNext_eq_next hn
    exact ih (k.hostMove h hm) hr

theorem StepKept.hostTurn (h : Q s) (hn : hostTurn s = .next t) : Q t := by
  unfold Machine.hostTurn at hn
  split at hn
  · cases hn; exact h
  · exact k.hostMoves (k.plan s _ h) hn

theorem StepKept.testAndSync (h : Q s) (hn : testAndSync s = .next t) : Q t :=
  have hs : ((testInterrupts s).andThen fun _ u => .ok () u.syncDevices).Holds Q :=
    Access.holds_andThen (k.testInterrupts k.irq h) fun _ u _ hu => k.sync u hu
  k.answer hs hn

theorem StepKept.afterInstruction (h : Q s) (hn : afterInstruction s = .next t) : Q t := by
  unfold Machine.afterInstruction at hn
  split at hn
  · cases hn; exact h
  · cases hn; exact k.sync s h
  all_goals exact k.testAndSync h hn

theorem StepKept.fetch (h : Q s) : (fetch s).Holds Q :=
  Access.holds_andThen (k.readByte _ h) fun op u _ hu => by
    split
    · exact hu
    · exact Access.holds_andThen (k.readByte _ hu) fun _ _ _ hv => hv
    · exact Access.holds_andThen (k.readByte _ hu) fun _ _ _ hv =>
        Access.holds_andThen (k.readByte _ hv) fun _ _ _ hw => hw

theorem StepKept.executeNext (h : Q s) (hn : executeNext s = .next t) : Q t := by
  have hf := k.fetch h
  unfold Machine.executeNext at hn
  split at hn
  · next i u he => rw [he] at hf; exact exec_keeps k.toKept hf i hn
  · next info u he => rw [he] at hf; cases hn; exact k.stop u info hf

theorem StepKept.stepRunning (h : Q s) (hn : stepRunning s = .next t) : Q t := by
  have hei : CpuStep s.cpu s.cpu.consumeEi := by
    unfold Cpu.consumeEi; split <;> exact .same rfl (le_refl _) rfl
  obtain ⟨u, he, ha⟩ := onNext_eq_next hn
  exact k.afterInstruction (k.executeNext (k.onCpu hei h) he) ha

theorem StepKept.stepHalted (h : Q s) (hn : stepHalted s = .next t) : Q t := by
  unfold Machine.stepHalted at hn
  split at hn
  · exact k.testAndSync (k.onCpu ⟨id, le_refl _, fun _ he => by cases he⟩ h) hn
  · cases hn; exact k.sync _ (k.addTicks _ h)

theorem StepKept.machineStep (h : Q s) (hn : machineStep s = .next t) : Q t := by
  unfold Machine.machineStep at hn
  split at hn
  · exact k.stepRunning h hn
  · exact k.stepHalted h hn
  · cases hn; exact h
  · cases hn

/-- A predicate that is `StepKept` is kept by every step, the host's turn included. -/
theorem StepKept.step (h : Q s) (hn : step s = .next t) : Q t := by
  obtain ⟨u, hh, hm⟩ := onNext_eq_next hn
  exact k.machineStep (k.hostTurn h hh) hm

end

/-! ### What writes inside the stores keep -/

/-- In a region with a fixed store behind it, the cell a bus address names lies inside the store (20 R61). -/
def Region.OffsetInside (n : Nat) : Region → Prop
  | .vram => n - 0x8000 < 8192
  | .wram => n - 0xC000 < 8192
  | .echo => n - 0xE000 < 8192
  | .oam => n - 0xFE00 < 160
  | .io => n - 0xFF00 < 128
  | .hram => n - 0xFF80 < 127
  | .romFixed | .romSwitched | .eram | .unusable | .ie => True

theorem regionOf_offsetInside (a : Word) : (regionOf a).OffsetInside a.toNat := by
  unfold regionOf
  dsimp only
  repeat' refine iteInduction (fun _ => ?_) fun _ => ?_
  all_goals simp only [Region.OffsetInside]
  all_goals omega

/-- The byte of external RAM that an address reaches lies inside a RAM that exists (20 R92). -/
theorem State.eramIndex_lt {s : State} {a : Word} {n : Nat} (hb : s.cart.ramSize ≠ 0) (h : s.eramIndex a = some n) :
    n < s.cart.ramSize := by
  have hm (x : Nat) : x % s.cart.ramSize < s.cart.ramSize := Nat.mod_lt x (Nat.pos_of_ne_zero hb)
  unfold State.eramIndex at h
  split at h
  · exact Option.some.inj h ▸ hm _
  all_goals
    split at h
    · exact Option.some.inj h ▸ hm _
    · cases h

/-- A predicate kept by each of the few things the machine does to its state, where a write of a cell is one inside its
store when the configuration is well formed. -/
structure CellKept (Q : State → Prop) : Prop where
  cpu : ∀ s c, CpuStep s.cpu c → Q s → Q { s with cpu := c }
  cell : ∀ s st n v, (s.cfg.wellFormed = true → n < s.cart.storeSize st) → Q s → Q (s.setCell st n v)
  stop : ∀ s info, Q s → Q (s.raise info)
  ie : ∀ s v, Q s → Q { s with mem := { s.mem with ie := v } }
  romSpace : ∀ s a v, Q s → Q (s.writeRomSpace a v)
  dirty : ∀ s b, Q s → Q { s with mbc := { s.mbc with dirty := b } }
  timer : ∀ s x, Q s → Q { s with timer := x }
  video : ∀ s x, Q s → Q { s with video := x }
  audio : ∀ s x, Q s → Q { s with audio := x }
  buttons : ∀ s b, Q s → Q { s with buttons := b }
  draws : ∀ s n, Q s → Q { s with draws := n }
  plan : ∀ s p, Q s → Q { s with hostPlan := p }
  booted : ∀ s image mbc, image.wellFormed = true → Q s → Q (s.booted image mbc)

theorem CellKept.deviceKept {Q : State → Prop} (k : CellKept Q) : DeviceKept Q where
  io s n v hn h := k.cell s .io n v (fun _ => hn) h
  frame s n v hn h := k.cell s .framebuffer n v (fun _ => hn) h
  timer := k.timer
  video := k.video
  audio := k.audio

theorem CellKept.writeEram {Q : State → Prop} (k : CellKept Q) {s : State} (a : Word) (v : Byte)
    (hb : s.cart.ramSize ≠ 0) (h : Q s) : Q (s.writeEram a v) := by
  unfold State.writeEram; split
  · next n hn => exact k.dirty _ _ (k.cell s .eram n v (fun _ => State.eramIndex_lt hb hn) h)
  · exact h

/-- A write to a backed address is a write inside a store, or a bank controller's register (20 R63, R101). -/
theorem CellKept.busStore {Q : State → Prop} (k : CellKept Q) {s : State} (a : Word) (v : Byte)
    (hb : s.backed a = true) (h : Q s) : Q (s.busStore a v) := by
  have ho := regionOf_offsetInside a
  unfold State.busStore
  split
  · exact k.romSpace s a v h
  · exact k.romSpace s a v h
  · next hr => rw [hr] at ho; exact k.cell s .vram _ v (fun _ => ho) h
  · next hr => exact k.writeEram a v (by simpa [State.backed, hr] using hb) h
  · next hr => rw [hr] at ho; exact k.cell s .wram _ v (fun _ => ho) h
  · next hr => rw [hr] at ho; exact k.cell s .wram _ v (fun _ => ho) h
  · next hr => rw [hr] at ho; exact k.cell s .oam _ v (fun _ => ho) h
  · exact h
  · next hr => rw [hr] at ho; exact k.deviceKept.writeIo v ho h
  · next hr => rw [hr] at ho; exact k.cell s .hram _ v (fun _ => ho) h
  · exact k.ie s v h

/-- A well-formed configuration copies no more than the sprite table holds (20 R80). -/
theorem Config.dmaLength_le {c : Config} (h : c.wellFormed = true) : c.dmaLength ≤ 160 := by
  simp only [Config.wellFormed, Bool.and_eq_true, decide_eq_true_eq] at h
  exact h.2

theorem CellKept.stepKept {Q : State → Prop} (k : CellKept Q) : StepKept Q where
  cpu := k.cpu
  read s a h := by rw [State.afterRead_eq]; exact k.draws s _ h
  store s a v hb h := k.busStore a v hb h
  dmaByte s n v hn h := k.cell s .oam n v (fun hw => Nat.lt_of_lt_of_le hn (Config.dmaLength_le hw)) h
  dmaRegister s v h := k.deviceKept.io s _ v (by decide) h
  stop := k.stop
  irq s v h := k.deviceKept.io s _ v (by decide) h
  sync s h := k.deviceKept.syncDevices h
  plan := k.plan
  booted := k.booted
  buttons := k.buttons
  ring s _ h := k.audio s _ h
  dirty := k.dirty

/-- A write to ROM space changes the bank controller's registers at most (20 R66). -/
theorem State.writeRomSpace_eq (s : State) (a : Word) (v : Byte) :
    s.writeRomSpace a v = { s with mbc := (s.writeRomSpace a v).mbc } := by
  unfold State.writeRomSpace; split <;> rfl

end Sys2Proof.Machine
end

section
/-! The invariants of the CPU's `F`, of the bank-select field and of the stores, kept by every step. -/
namespace Sys2Proof.Machine

/-! ### The low nibble of `F` (10 R22) -/

theorem cellKept_flagsInv : CellKept State.FlagsInv where
  cpu _ _ hc h := hc.flags h
  cell _ _ _ _ _ h := h
  stop _ _ h := h
  ie _ _ h := h
  romSpace s a v h := by rw [State.writeRomSpace_eq]; exact h
  dirty _ _ h := h
  timer _ _ h := h
  video _ _ h := h
  audio _ _ h := h
  buttons _ _ h := h
  draws _ _ h := h
  plan _ _ h := h
  booted _ _ _ _ _ := (by decide : Cpu.reset.f &&& 0x0F = 0)

/-! ### The bank-select field (20 R94, R95, R98) -/

theorem redirectZero_ne_zero (low : BitVec 7) : redirectZero low ≠ 0 := by
  unfold redirectZero; split
  · decide
  · assumption

/-- The five bits a write to MBC1's bank window stores are not all zero (20 R94). -/
theorem low5_insert_redirectZero (b : BitVec 7) (v : Byte) :
    (b &&& 0x60 ||| redirectZero ((v &&& 0x1F).setWidth 7)) &&& 0x1F ≠ 0 := by
  have hb : b &&& 0x60 &&& 0x1F = 0#7 := by rw [BitVec.and_assoc]; exact BitVec.and_zero
  have hv : (v &&& 0x1F).setWidth 7 &&& 0x1F = (v &&& 0x1F).setWidth 7 := by
    rw [BitVec.setWidth_and, BitVec.and_assoc]; rfl
  rw [BitVec.and_or_distrib_right, hb, BitVec.zero_or]
  unfold redirectZero
  split
  · decide
  · rwa [hv]

/-- A write of the two high bits of the bank number leaves the five low bits (20 R94). -/
theorem low5_insert_high (b high : BitVec 7) : (b &&& 0x1F#7 ||| high <<< 5) &&& 0x1F#7 = b &&& 0x1F#7 := by
  have hh : high <<< 5 &&& 0x1F#7 = 0#7 := by revert high; decide
  rw [BitVec.and_or_distrib_right, hh, BitVec.or_zero, BitVec.and_assoc, BitVec.and_self]

theorem MbcRegs.writeMbc1_low5 {m : MbcRegs} (h : m.romBank &&& 0x1F ≠ 0) (a : Word) (v : Byte) :
    (m.writeMbc1 a v).romBank &&& 0x1F ≠ 0 := by
  unfold MbcRegs.writeMbc1
  split
  · exact h
  split
  · exact low5_insert_redirectZero m.romBank v
  split
  · split
    · exact h
    · exact (low5_insert_high m.romBank _).trans_ne h
  · exact h

theorem MbcRegs.writeIndependent_ne_zero {m : MbcRegs} (h : m.romBank ≠ 0) (a : Word) (v : Byte) :
    (m.writeIndependent a v).romBank ≠ 0 := by
  unfold MbcRegs.writeIndependent
  split
  · exact h
  split
  · exact redirectZero_ne_zero _
  split <;> exact h

theorem State.BankInv.writeRomSpace {s : State} (h : s.BankInv) (a : Word) (v : Byte) :
    (s.writeRomSpace a v).BankInv := by
  obtain ⟨h1, h2⟩ := h
  unfold State.writeRomSpace
  split
  · exact ⟨h1, h2⟩
  · next hm => exact ⟨fun _ => MbcRegs.writeMbc1_low5 (h1 hm) a v, fun hi => (by cases hm.symm.trans hi)⟩
  · next hm => exact ⟨fun h1 => (by cases hm.symm.trans h1), fun _ => MbcRegs.writeIndependent_ne_zero (h2 hm) a v⟩

theorem cellKept_bankInv : CellKept State.BankInv where
  cpu _ _ _ h := h
  cell _ _ _ _ _ h := h
  stop _ _ h := h
  ie _ _ h := h
  romSpace _ a v h := h.writeRomSpace a v
  dirty _ _ h := h
  timer _ _ h := h
  video _ _ h := h
  audio _ _ h := h
  buttons _ _ h := h
  draws _ _ h := h
  plan _ _ h := h
  booted _ _ _ _ _ := ⟨fun _ => (by decide : MbcRegs.reset.romBank &&& 0x1F ≠ 0),
    fun _ => (by decide : MbcRegs.reset.romBank ≠ 0)⟩

/-- Settles O56: both invariants are kept by the few things a step does to the state (`CellKept`). -/
theorem stepKeepsFlagNibbleAndBank : Obligations.StepKeepsFlagNibbleAndBank := fun _ _ hn =>
  ⟨fun h => cellKept_flagsInv.stepKept.step h hn, fun h => cellKept_bankInv.stepKept.step h hn⟩

/-! ### The form and the size of the stores (10 R31, 20 R92) -/

/-- The invariant of the stores, over a well-formed configuration. -/
def State.MemoryOk (s : State) : Prop := s.cfg.wellFormed = true ∧ s.MemoryInv

/-- A list of cells is in canonical form and lists nothing outside a size. -/
def Memory.FormIn (st : Store) (size : Nat) (m : Memory) : Prop := Memory.wf st m = true ∧ ∀ c ∈ m, c.1 < size

theorem Memory.formIn_nil (st : Store) (size : Nat) : Memory.FormIn st size [] := ⟨rfl, by simp⟩

theorem Memory.FormIn.write {st : Store} {size n : Nat} {m : Memory} (h : Memory.FormIn st size m) (hn : n < size)
    (v : Byte) : Memory.FormIn st size (Memory.write st m n v) := by
  obtain ⟨hw, hs⟩ := h
  refine ⟨Memory.wf_write hw n v, fun c hc => ?_⟩
  rcases Memory.mem_write hc with rfl | hc
  · exact hn
  · exact hs c hc

theorem Memory.FormIn.writeAll {st : Store} {size : Nat} {m : Memory} (h : Memory.FormIn st size m)
    {cells : List (Nat × Byte)} (hc : ∀ c ∈ cells, c.1 < size) :
    Memory.FormIn st size (Memory.writeAll st m cells) := by
  induction cells generalizing m with
  | nil => exact h
  | cons c rest ih =>
    exact ih (h.write (hc c (List.mem_cons_self ..)) c.2) fun d hd => hc d (List.mem_cons_of_mem _ hd)

theorem Memory.ofBytes_lt {index : Nat} {bytes : List Byte} :
    ∀ c ∈ Memory.ofBytes index bytes, c.1 < index + bytes.length := by
  induction bytes generalizing index with
  | nil => simp [Memory.ofBytes]
  | cons v rest ih =>
    intro c hc
    rw [List.length_cons]
    rcases List.mem_cons.mp hc with rfl | hc
    · show index < _; omega
    · have := ih c hc; omega

theorem State.MemoryInv.setCell {s : State} (h : s.MemoryInv) {st : Store} {n : Nat} (hn : n < s.cart.storeSize st)
    (v : Byte) : (s.setCell st n v).MemoryInv := by
  intro st'
  show Memory.FormIn st' (s.cart.storeSize st') ((s.mem.put st _).get st')
  by_cases hst : st' = st
  · subst hst
    rw [Stores.get_put_same]
    exact Memory.FormIn.write (h st') hn v
  · rw [Stores.get_put_other _ _ hst]
    exact h st'

/-- The I/O page after boot: overrides inside the page (70 R404). -/
theorem configBootIo_formIn {c : Config} (h : c.wellFormed = true) : Memory.FormIn .io 128 (configBootIo c) := by
  simp only [Config.wellFormed, Bool.and_eq_true, decide_eq_true_eq, List.all_eq_true] at h
  obtain ⟨⟨⟨hio, -⟩, -⟩, -⟩ := h
  exact ((Memory.formIn_nil .io 128).writeAll fun c hc => (hio c hc).1).write (by decide) _

/-- The stores after the boot of a well-formed image (70 R404 to R407). -/
theorem State.booted_memoryInv {s : State} (hc : s.cfg.wellFormed = true) {image : CartImage}
    (hi : image.wellFormed = true) (mbc : Mbc) : (s.booted image mbc).MemoryInv := by
  simp only [CartImage.wellFormed, Bool.and_eq_true, decide_eq_true_eq, List.all_eq_true] at hi
  obtain ⟨⟨⟨⟨⟨-, -⟩, hsize⟩, hcanon⟩, hrom⟩, hsave⟩ := hi
  intro st
  cases st with
  | rom => exact ⟨Memory.wf_rom_of_canonical hcanon, fun c hcell => (hrom c hcell).trans_eq hsize⟩
  | eram =>
    show Memory.FormIn .eram (ramSizeOfCode image.ramCode) (Stores.boot s.cfg image).eram
    cases hs : image.save with
    | none => simpa [Stores.boot, hs] using Memory.formIn_nil _ _
    | some bytes =>
      have hlen : bytes.length = ramSizeOfCode image.ramCode := by simpa [hs] using hsave
      simp only [Stores.boot, hs]
      refine ⟨Memory.wf_ofBytes_eram 0 bytes, fun c hcell => ?_⟩
      have := Memory.ofBytes_lt c hcell
      omega
  | io => exact configBootIo_formIn hc
  | vram | wram | oam | hram | framebuffer => exact Memory.formIn_nil _ _

theorem cellKept_memoryOk : CellKept State.MemoryOk where
  cpu _ _ _ h := h
  cell _ _ _ v hn h := ⟨h.1, h.2.setCell (hn h.1) v⟩
  stop _ _ h := h
  ie s v h := ⟨h.1, fun st => by cases st <;> exact h.2 _⟩
  romSpace s a v h := by rw [State.writeRomSpace_eq]; exact h
  dirty _ _ h := h
  timer _ _ h := h
  video _ _ h := h
  audio _ _ h := h
  buttons _ _ h := h
  draws _ _ h := h
  plan _ _ h := h
  booted _ _ mbc hi h := ⟨h.1, State.booted_memoryInv h.1 hi mbc⟩

/-- Settles O57: the form of the stores is kept by the few things a step does to the state (`CellKept`). -/
theorem stepKeepsMemoryForm : Obligations.StepKeepsMemoryForm := fun _ _ hc hm hn =>
  cellKept_memoryOk.stepKept.step ⟨hc, hm⟩ hn

end Sys2Proof.Machine
end

section
/-! Which fields of the CPU an instruction may write (10 R25, R26, R28, R29): the frame of the CPU, handler by
handler. -/
namespace Sys2Proof.Machine

/-- What instruction `i` leaves of the CPU: the flags, `SP`, `IME` with the pending enable, and the run state, unless it
is one of those that write them; a fatal stop changes the run state (60 R300). -/
structure CpuFrame (i : Instr) (c c' : Cpu) : Prop where
  flags : writesFlags i = false → c'.f = c.f
  sp : writesSp i = false → c'.sp = c.sp
  ime : i ≠ .di → i ≠ .ei → i ≠ .reti → c'.ime = c.ime ∧ c'.eiPending = c.eiPending
  run : i ≠ .halt → (∀ n8, i ≠ .stop n8) → c'.runState = c.runState ∨ ∃ info, c'.runState = .faulted info

section
variable {i : Instr} {c c' c'' : Cpu}

/-- A change that leaves `IME` and the run state, and leaves the flags and `SP` unless the instruction writes them. -/
theorem CpuFrame.of_fields (hf : writesFlags i = true ∨ c'.f = c.f) (hs : writesSp i = true ∨ c'.sp = c.sp)
    (hi : c'.ime = c.ime) (he : c'.eiPending = c.eiPending) (hr : c'.runState = c.runState) : CpuFrame i c c' where
  flags hw := hf.resolve_left (by simp [hw])
  sp hw := hs.resolve_left (by simp [hw])
  ime _ _ _ := ⟨hi, he⟩
  run _ _ := .inl hr

theorem CpuFrame.refl (i : Instr) (c : Cpu) : CpuFrame i c c := .of_fields (.inr rfl) (.inr rfl) rfl rfl rfl

theorem CpuFrame.trans (h : CpuFrame i c c') (k : CpuFrame i c' c'') : CpuFrame i c c'' where
  flags hw := (k.flags hw).trans (h.flags hw)
  sp hw := (k.sp hw).trans (h.sp hw)
  ime h1 h2 h3 := ⟨(k.ime h1 h2 h3).1.trans (h.ime h1 h2 h3).1, (k.ime h1 h2 h3).2.trans (h.ime h1 h2 h3).2⟩
  run h1 h2 := (k.run h1 h2).elim (fun e => e ▸ h.run h1 h2) .inr

end

/-! ### Changes of the CPU -/

/-- A change of the CPU that stays inside the frame of an instruction. -/
def FramedFn (i : Instr) (f : Cpu → Cpu) : Prop := ∀ c, CpuFrame i c (f c)

section
variable {i : Instr}

theorem framedFn_setPc (v : Cpu → Word) : FramedFn i fun c => c.setPc (v c) :=
  fun _ => .of_fields (.inr rfl) (.inr rfl) rfl rfl rfl

theorem framedFn_addTicks (n : Nat) : FramedFn i fun c => c.addTicks n :=
  fun _ => .of_fields (.inr rfl) (.inr rfl) rfl rfl rfl

theorem framedFn_setSp (v : Cpu → Word) (hw : writesSp i = true) : FramedFn i fun c => c.setSp (v c) :=
  fun _ => .of_fields (.inr rfl) (.inl hw) rfl rfl rfl

theorem framedFn_setReg (r : R8) (v : Cpu → Byte) : FramedFn i fun c => c.setReg r (v c) :=
  fun c => .of_fields (.inr (c.setReg_f r _)) (.inr (c.setReg_sp r _)) (c.setReg_ime r _) (c.setReg_eiPending r _)
    (c.setReg_runState r _)

theorem framedFn_setRp (p : Rp) (v : Cpu → Word) (hw : p = .sp → writesSp i = true) :
    FramedFn i fun c => c.setRp p (v c) := by
  cases p
  case sp => exact fun c => .of_fields (.inr rfl) (.inl (hw rfl)) rfl rfl rfl
  all_goals exact fun c => .of_fields (.inr rfl) (.inr rfl) rfl rfl rfl

theorem framedFn_setRp2 (p : Rp2) (v : Word) (hw : p = .af → writesFlags i = true) :
    FramedFn i fun c => c.setRp2 p v := by
  cases p
  case af => exact fun c => .of_fields (.inl (hw rfl)) (.inr rfl) rfl rfl rfl
  all_goals exact fun c => .of_fields (.inr rfl) (.inr rfl) rfl rfl rfl

theorem framedFn_setFlags (g : Cpu → Flags) (hw : writesFlags i = true) : FramedFn i fun c => c.setFlags (g c) :=
  fun _ => .of_fields (.inl hw) (.inr rfl) rfl rfl rfl

theorem framedFn_aluOnA (op : AluOp) (v : Cpu → Byte) (hw : writesFlags i = true) :
    FramedFn i fun c => aluOnA op (v c) c :=
  fun _ => .of_fields (.inl hw) (.inr rfl) rfl rfl rfl

/-- A read-modify-write of a register writes the flags where it computes some. -/
theorem framedFn_modifyReg (r : R8) (result : Byte → Flags → Byte) {flags : Byte → Flags → Option Flags}
    (hw : writesFlags i = true ∨ ∀ v old, flags v old = none) : FramedFn i (modifyReg r result flags) := by
  intro c
  have hr : CpuFrame i c (c.setReg r (result (c.reg r) c.flags)) := framedFn_setReg r (fun _ => _) c
  unfold modifyReg
  dsimp only
  split
  · next f hf => exact hr.trans (framedFn_setFlags (fun _ => f) (hw.resolve_right fun hn => by simp [hn] at hf) _)
  · exact hr

end

/-! ### Handlers -/

/-- A state whose CPU is, but for what instruction `i` may write, a given one. -/
def Framed (i : Instr) (c : Cpu) (s : State) : Prop := CpuFrame i c s.cpu

/-- A handler that stays inside the frame of an instruction, whether it goes through or stops. -/
def FramedHandler (i : Instr) (handler : State → Access Unit) : Prop :=
  ∀ c s, Framed i c s → (handler s).Holds (Framed i c)

/-- A read leaves the CPU. -/
theorem readByte_framed {i : Instr} {c : Cpu} {s : State} (a : Word) (h : Framed i c s) :
    (readByte a s).Holds (Framed i c) := by
  unfold readByte; split
  · show CpuFrame i c (s.afterRead a).cpu
    rw [State.afterRead_cpu]; exact h
  · exact h

/-- A write leaves the CPU. -/
theorem writeByte_framed {i : Instr} {c : Cpu} {s : State} (a : Word) (v : Byte) (h : Framed i c s) :
    (writeByte a v s).Holds (Framed i c) := by
  unfold writeByte; split
  · split
    · exact dmaCopy_holds (bound := s.cfg.dmaLength) (by omega)
        (fun t b ht => show CpuFrame i c (t.afterRead b).cpu by rw [State.afterRead_cpu]; exact ht)
        (fun _ _ _ _ ht => ht) h
    · show CpuFrame i c (s.busStore a v).cpu
      rw [(s.busChange_busStore a v).cpu]; exact h
  · exact h

section
variable {i : Instr} {c : Cpu} {s : State}

theorem Framed.onCpu {f : Cpu → Cpu} (h : Framed i c s) (hf : FramedFn i f) : Framed i c (s.onCpu f) :=
  CpuFrame.trans h (hf s.cpu)

/-- The CPU changes and the access goes through. -/
theorem Framed.changed {α : Type} {v : α} {f : Cpu → Cpu} (h : Framed i c s) (hf : FramedFn i f) :
    (Access.ok v (s.onCpu f)).Holds (Framed i c) := h.onCpu hf

/-- A change of the CPU after an access. -/
theorem Framed.changeAfter {α : Type} {x : Access α} {f : α → Cpu → Cpu} (hx : x.Holds (Framed i c))
    (hf : ∀ v, FramedFn i (f v)) :
    (x.andThen fun v s1 => (.ok () (s1.onCpu (f v)) : Access Unit)).Holds (Framed i c) :=
  Access.holds_andThen hx fun v _ _ h1 => Framed.onCpu h1 (hf v)

theorem push16_framed (v : Word) (hw : writesSp i = true) (h : Framed i c s) : (push16 v s).Holds (Framed i c) := by
  rw [push16_eq]
  exact Access.holds_andThen (writeByte_framed _ _ (h.onCpu (framedFn_setSp _ hw))) fun _ _ _ h1 =>
    writeByte_framed _ _ (h1.onCpu (framedFn_setSp _ hw))

theorem pop16_framed (hw : writesSp i = true) (h : Framed i c s) : (pop16 s).Holds (Framed i c) :=
  Access.holds_andThen (readByte_framed _ h) fun _ _ _ h1 =>
    Access.holds_andThen (readByte_framed _ (h1.onCpu (framedFn_setSp _ hw))) fun _ _ _ h2 =>
      Framed.changed h2 (framedFn_setSp _ hw)

end

section
variable {i : Instr}

theorem FramedHandler.loadA (a : State → Word) : FramedHandler i fun s => loadA (a s) s := fun _ _ h =>
  .changeAfter (readByte_framed _ h) fun v => framedFn_setReg .a fun _ => v

theorem FramedHandler.storeA (a : State → Word) : FramedHandler i fun s => storeA (a s) s :=
  fun _ _ h => writeByte_framed _ _ h

theorem FramedHandler.write (a : State → Word) (v : State → Byte) : FramedHandler i fun s => writeByte (a s) (v s) s :=
  fun _ _ h => writeByte_framed _ _ h

theorem FramedHandler.writeWord (a : Word) (v : State → Word) : FramedHandler i fun s => writeWord a (v s) s :=
  fun _ _ h => Access.holds_andThen (writeByte_framed _ _ h) fun _ _ _ h1 => writeByte_framed _ _ h1

theorem FramedHandler.withHl {f : Byte → Cpu → Cpu} (hf : ∀ v, FramedFn i (f v)) : FramedHandler i (withHl f) :=
  fun _ _ h => .changeAfter (readByte_framed _ h) hf

/-- A read-modify-write of memory writes the flags where it computes some. -/
theorem FramedHandler.modifyHl (result : Byte → Flags → Byte) {flags : Byte → Flags → Option Flags}
    (hw : writesFlags i = true ∨ ∀ v old, flags v old = none) : FramedHandler i (modifyHl result flags) := fun _ _ h =>
  Access.holds_andThen (readByte_framed _ h) fun _ _ _ h1 =>
    Access.holds_andThen (writeByte_framed _ _ h1) fun _ _ _ h2 => by
      split
      · next f hf =>
        have hi := hw.resolve_right fun hn => by simp [hn] at hf
        exact Framed.changed h2 (framedFn_setFlags (fun _ => f) hi)
      · exact h2

theorem FramedHandler.thenMoveHl {handler : State → Access Unit} (delta : Word) (hh : FramedHandler i handler) :
    FramedHandler i fun s => thenMoveHl delta (handler s) := fun _ _ h =>
  .changeAfter (hh _ _ h) fun _ => framedFn_setRp .hl _ nofun

theorem FramedHandler.jumpTo (target : State → Word) : FramedHandler i fun s => jumpTo (target s) s := fun _ _ h =>
  h.changed (framedFn_setPc fun _ => _)
theorem FramedHandler.jumpRelative (n8 : Byte) : FramedHandler i (jumpRelative n8) := fun _ _ h =>
  h.changed (framedFn_setPc _)
theorem FramedHandler.callTo (target : Word) (hw : writesSp i = true) : FramedHandler i (callTo target) := fun _ _ h =>
  .changeAfter (push16_framed _ hw h) fun _ => framedFn_setPc _
theorem FramedHandler.returnToCaller (hw : writesSp i = true) : FramedHandler i returnToCaller := fun _ _ h =>
  .changeAfter (pop16_framed hw h) fun _ => framedFn_setPc _

theorem FramedHandler.whenTaken (cc : Cond) (extra : Nat) {handler : State → Access Unit}
    (hh : FramedHandler i handler) : FramedHandler i (whenTaken cc extra handler) := fun _ _ h => by
  unfold Machine.whenTaken
  split
  · exact .changeAfter (hh _ _ h) fun _ => framedFn_addTicks _
  · exact h

end

/-! ### Instructions -/

/-- An instruction stays inside its frame. -/
def InstrFramed (i : Instr) : Prop := ∀ s t, exec i s = .next t → CpuFrame i s.cpu t.cpu

theorem Framed.raise {i : Instr} {c : Cpu} {s : State} (info : Fault) (h : Framed i c s) :
    Framed i c (s.raise info) where
  flags := h.flags
  sp := h.sp
  ime := h.ime
  run _ _ := .inr ⟨info, rfl⟩

section
variable {i : Instr} {len ticks : Nat}

theorem InstrFramed.of_handler {handler : State → Access Unit} (he : ∀ s, exec i s = runOp len ticks handler s)
    (hh : FramedHandler i handler) : InstrFramed i := fun s _ hn =>
  have hs : Framed i s.cpu s := .refl i s.cpu
  runOp_holds (Q := Framed i s.cpu) (hh _ _ (hs.onCpu (framedFn_setPc _)))
    (fun _ h => h.onCpu (framedFn_addTicks _)) (fun _ info h => h.raise info) (he s ▸ hn)

theorem InstrFramed.of_cpu {f : Cpu → Cpu} (he : ∀ s, exec i s = runOp len ticks (cpuOnly f) s) (hf : FramedFn i f) :
    InstrFramed i := .of_handler he fun _ _ h => Framed.onCpu h hf

theorem InstrFramed.of_illegal {op : IllegalOp} (he : ∀ s, exec i s = raiseUnimplemented op s) : InstrFramed i := by
  intro s t hn
  rw [he] at hn
  cases hn
  exact Framed.raise (s := s) _ (.refl i s.cpu)

end

theorem instrFramed_di : InstrFramed .di := .of_cpu (fun _ => rfl) fun _ =>
  ⟨fun _ => rfl, fun _ => rfl, fun h => absurd rfl h, fun _ _ => .inl rfl⟩

theorem instrFramed_halt : InstrFramed .halt := .of_cpu (fun _ => rfl) fun _ =>
  ⟨fun _ => rfl, fun _ => rfl, fun _ _ _ => ⟨rfl, rfl⟩, fun h => absurd rfl h⟩

theorem instrFramed_stop (n8 : Byte) : InstrFramed (.stop n8) := .of_cpu (fun _ => rfl) fun _ =>
  ⟨fun _ => rfl, fun _ => rfl, fun _ _ _ => ⟨rfl, rfl⟩, fun _ h => absurd rfl (h n8)⟩

theorem instrFramed_ei : InstrFramed .ei := .of_handler (handler := enableInterrupts) (fun _ => rfl) fun _ s h => by
  refine h.onCpu fun c => ?_
  unfold Cpu.enableInterrupts
  repeat' split
  all_goals exact ⟨fun _ => rfl, fun _ => rfl, fun _ h => absurd rfl h, fun _ _ => .inl rfl⟩

theorem instrFramed_reti : InstrFramed .reti := .of_handler (handler := returnFromInterrupt) (fun _ => rfl) fun _ _ h =>
  .changeAfter (pop16_framed rfl h) fun _ _ =>
    ⟨fun _ => rfl, fun _ => rfl, fun _ _ h => absurd rfl h, fun _ _ => .inl rfl⟩

/-- Every instruction stays inside its frame (10 R25, R26, R28, R29). -/
theorem instrFramed (i : Instr) : InstrFramed i := by
  refine Instr.byShape (P := InstrFramed) (i := i)
    (ldRR := fun r r' => .of_cpu (exec_ldRR r r') (framedFn_setReg r _))
    (ldRImm := fun r v => .of_cpu (exec_ldRImm r v) (framedFn_setReg r _))
    (ldRHl := fun r => .of_handler (exec_ldRHl r) (.withHl fun v => framedFn_setReg r _))
    (ldHlR := fun r => .of_handler (exec_ldHlR r) (.write _ _))
    (ldRpImm := fun p v => .of_cpu (exec_ldRpImm p v) (framedFn_setRp p _ fun hp => by subst hp; rfl))
    (pushRp2 := fun p => .of_handler (exec_pushRp2 p) fun _ _ h => push16_framed _ (by cases p <;> rfl) h)
    (popRp2 := fun p => .of_handler (exec_popRp2 p) fun _ _ h => .changeAfter (pop16_framed (by cases p <;> rfl) h)
      fun v => framedFn_setRp2 p v fun hp => by subst hp; rfl)
    (aluR := fun op r => .of_cpu (exec_aluR op r) (framedFn_aluOnA op _ (by cases op <;> cases r <;> rfl)))
    (aluHl := fun op => .of_handler (exec_aluHl op) (.withHl fun v => framedFn_aluOnA op _ (by cases op <;> rfl)))
    (aluImm := fun op v => .of_cpu (exec_aluImm op v) (framedFn_aluOnA op _ (by cases op <;> rfl)))
    (incR := fun r => .of_cpu (exec_incR r) (framedFn_modifyReg r _ (.inl (by cases r <;> rfl))))
    (decR := fun r => .of_cpu (exec_decR r) (framedFn_modifyReg r _ (.inl (by cases r <;> rfl))))
    (addHlRp := fun p => .of_cpu (exec_addHlRp p) fun _ =>
      .of_fields (.inl (by cases p <;> rfl)) (.inr rfl) rfl rfl rfl)
    (incRp := fun p => .of_cpu (exec_incRp p) (framedFn_setRp p _ fun hp => by subst hp; rfl))
    (decRp := fun p => .of_cpu (exec_decRp p) (framedFn_setRp p _ fun hp => by subst hp; rfl))
    (rotR := fun op r => .of_cpu (exec_rotR op r) (framedFn_modifyReg r _ (.inl (by cases op <;> cases r <;> rfl))))
    (rotHl := fun op => .of_handler (exec_rotHl op) (.modifyHl _ (.inl (by cases op <;> rfl))))
    (bitR := fun b r => .of_cpu (exec_bitR b r) (framedFn_setFlags _ (by cases b <;> cases r <;> rfl)))
    (bitHl := fun b => .of_handler (exec_bitHl b) (.withHl fun v => framedFn_setFlags _ (by cases b <;> rfl)))
    (resR := fun b r => .of_cpu (exec_resR b r) (framedFn_modifyReg r _ (.inr fun _ _ => rfl)))
    (resHl := fun b => .of_handler (exec_resHl b) (.modifyHl _ (.inr fun _ _ => rfl)))
    (setR := fun b r => .of_cpu (exec_setR b r) (framedFn_modifyReg r _ (.inr fun _ _ => rfl)))
    (setHl := fun b => .of_handler (exec_setHl b) (.modifyHl _ (.inr fun _ _ => rfl)))
    (jpCc := fun cc v => .of_handler (exec_jpCc cc v) (.whenTaken cc _ (.jumpTo _)))
    (jrCc := fun cc v => .of_handler (exec_jrCc cc v) (.whenTaken cc _ (.jumpRelative v)))
    (callCc := fun cc v => .of_handler (exec_callCc cc v) (.whenTaken cc _ (.callTo v (by cases cc <;> rfl))))
    (retCc := fun cc => .of_handler (exec_retCc cc) (.whenTaken cc _ (.returnToCaller (by cases cc <;> rfl))))
    (rst := fun b => .of_handler (exec_rst b) (.callTo _ (by cases b <;> rfl)))
    (illegal := fun op => .of_illegal (exec_illegal op))
    (nop := .of_cpu (f := id) (fun _ => rfl) fun c => .refl .nop c)
    (ld_atBC_A := .of_handler (fun _ => rfl) (.storeA fun s => s.cpu.bc))
    (rlca := .of_cpu (fun _ => rfl) (framedFn_modifyReg .a _ (.inl rfl)))
    (ld_atA16_SP := fun v => .of_handler (fun _ => rfl) (.writeWord v fun s => s.cpu.sp))
    (ld_A_atBC := .of_handler (fun _ => rfl) (.loadA fun s => s.cpu.bc))
    (rrca := .of_cpu (fun _ => rfl) (framedFn_modifyReg .a _ (.inl rfl)))
    (stop := instrFramed_stop)
    (ld_atDE_A := .of_handler (fun _ => rfl) (.storeA fun s => s.cpu.de))
    (rla := .of_cpu (fun _ => rfl) (framedFn_modifyReg .a _ (.inl rfl)))
    (jr_e8 := fun v => .of_handler (fun _ => rfl) (.jumpRelative v))
    (ld_A_atDE := .of_handler (fun _ => rfl) (.loadA fun s => s.cpu.de))
    (rra := .of_cpu (fun _ => rfl) (framedFn_modifyReg .a _ (.inl rfl)))
    (ld_atHLI_A := .of_handler (fun _ => rfl) (.thenMoveHl 1 (.storeA fun s => s.cpu.hl)))
    (daa := .of_cpu (fun _ => rfl) fun _ => .of_fields (.inl rfl) (.inr rfl) rfl rfl rfl)
    (ld_A_atHLI := .of_handler (fun _ => rfl) (.thenMoveHl 1 (.loadA fun s => s.cpu.hl)))
    (cpl := .of_cpu (fun _ => rfl) fun _ => .of_fields (.inl rfl) (.inr rfl) rfl rfl rfl)
    (ld_atHLD_A := .of_handler (fun _ => rfl) (.thenMoveHl (-1) (.storeA fun s => s.cpu.hl)))
    (inc_atHL := .of_handler (fun _ => rfl) (.modifyHl _ (.inl rfl)))
    (dec_atHL := .of_handler (fun _ => rfl) (.modifyHl _ (.inl rfl)))
    (ld_atHL_d8 := fun v => .of_handler (fun _ => rfl) (.write (fun s => s.cpu.hl) fun _ => v))
    (scf := .of_cpu (fun _ => rfl) fun _ => .of_fields (.inl rfl) (.inr rfl) rfl rfl rfl)
    (ld_A_atHLD := .of_handler (fun _ => rfl) (.thenMoveHl (-1) (.loadA fun s => s.cpu.hl)))
    (ccf := .of_cpu (fun _ => rfl) fun _ => .of_fields (.inl rfl) (.inr rfl) rfl rfl rfl)
    (halt := instrFramed_halt)
    (jp_a16 := fun v => .of_handler (fun _ => rfl) (.jumpTo fun _ => v))
    (ret := .of_handler (fun _ => rfl) (.returnToCaller rfl))
    (call_a16 := fun v => .of_handler (fun _ => rfl) (.callTo v rfl))
    (reti := instrFramed_reti)
    (ldh_atA8_A := fun v => .of_handler (fun _ => rfl) (.storeA fun _ => highPage v))
    (ld_atC_A := .of_handler (fun _ => rfl) (.storeA fun s => highPage s.cpu.c))
    (add_SP_e8 := fun v => .of_cpu (fun _ => rfl) fun _ => .of_fields (.inl rfl) (.inl rfl) rfl rfl rfl)
    (jp_HL := .of_handler (fun _ => rfl) (.jumpTo fun s => s.cpu.hl))
    (ld_atA16_A := fun v => .of_handler (fun _ => rfl) (.storeA fun _ => v))
    (ldh_A_atA8 := fun v => .of_handler (fun _ => rfl) (.loadA fun _ => highPage v))
    (ld_A_atC := .of_handler (fun _ => rfl) (.loadA fun s => highPage s.cpu.c))
    (di := instrFramed_di)
    (ld_HL_SP_e8 := fun v => .of_cpu (fun _ => rfl) fun _ => .of_fields (.inl rfl) (.inr rfl) rfl rfl rfl)
    (ld_SP_HL := .of_cpu (fun _ => rfl) (framedFn_setSp _ rfl))
    (ld_A_atA16 := fun v => .of_handler (fun _ => rfl) (.loadA fun _ => v))
    (ei := instrFramed_ei)

/-- Settles O28: every instruction stays inside its frame of the CPU. -/
theorem cpuFrames : Obligations.CpuFrames := by
  intro i s t hn
  obtain ⟨hflags, hsp, hime, hrun⟩ := instrFramed i s t hn
  refine ⟨hflags, hsp, hime, fun hhalt hstop => (hrun hhalt hstop).imp_right fun ⟨info, hf⟩ => ?_⟩
  simp [State.isFaulted, hf]

end Sys2Proof.Machine
end

section
/-! The bus by region: what a read and a write do in each part of the address map (20 R61 to R72). -/
namespace Sys2Proof.Machine

/-! ### The map as a table -/

/-- The first address of a region (20 R61). -/
def Region.first : Region → Nat
  | .romFixed => 0x0000
  | .romSwitched => 0x4000
  | .vram => 0x8000
  | .eram => 0xA000
  | .wram => 0xC000
  | .echo => 0xE000
  | .oam => 0xFE00
  | .unusable => 0xFEA0
  | .io => 0xFF00
  | .hram => 0xFF80
  | .ie => 0xFFFF

/-- The first address after a region (20 R61). -/
def Region.bound : Region → Nat
  | .romFixed => 0x4000
  | .romSwitched => 0x8000
  | .vram => 0xA000
  | .eram => 0xC000
  | .wram => 0xE000
  | .echo => 0xFE00
  | .oam => 0xFEA0
  | .unusable => 0xFF00
  | .io => 0xFF80
  | .hram => 0xFFFF
  | .ie => 0x10000

/-- An address within the bounds of a region belongs to it: the regions do not overlap. -/
theorem regionOf_eq {a : Word} (r : Region) (h : r.first ≤ a.toNat) (h' : a.toNat < r.bound) : regionOf a = r := by
  cases r <;> simp only [Region.first, Region.bound] at h h' <;>
    simp (disch := omega) only [regionOf, if_pos, if_neg]

/-- An address lies within the bounds of its region. -/
theorem regionOf_bounds (a : Word) : (regionOf a).first ≤ a.toNat ∧ a.toNat < (regionOf a).bound := by
  unfold regionOf
  dsimp only
  split_ifs <;> simp only [Region.first, Region.bound] <;> omega

/-! ### Accesses by region -/

/-- A read outside external RAM and the unusable region goes through and changes nothing (20 R62). -/
theorem readByte_of_region {a : Word} {s : State} (he : regionOf a ≠ .eram) (hu : regionOf a ≠ .unusable) :
    readByte a s = .ok (s.busValue a) s := by
  have hb : s.backed a = true := by unfold State.backed; split <;> trivial
  have hs : s.afterRead a = s := by unfold State.afterRead; split <;> trivial
  rw [readByte_backed hb, hs]

/-- A write outside external RAM and the DMA register has its region's effect (20 R63). -/
theorem writeByte_of_region {a : Word} {v : Byte} {s : State} (he : regionOf a ≠ .eram) (hd : a ≠ 0xFF46) :
    writeByte a v s = .ok () (s.busStore a v) := by
  have hb : s.backed a = true := by unfold State.backed; split <;> trivial
  exact writeByte_backed hb hd

/-- The DMA register lies in the I/O page. -/
theorem ne_dma_of_region {a : Word} (h : regionOf a ≠ .io) : a ≠ 0xFF46 := by
  rintro rfl; exact h (by decide)

/-- Both accesses of an address whose region's rule is all there is to say (20 R64 to R67, R70, R72). -/
theorem access_of_region {a : Word} {r : Region} {s : State} (v : Byte) (hr : regionOf a = r)
    (h : r ∉ [.eram, .unusable, .io] := by decide) :
    readByte a s = .ok (s.busValue a) s ∧ writeByte a v s = .ok () (s.busStore a v) := by
  simp only [List.mem_cons, List.not_mem_nil, or_false, not_or, ← hr] at h
  obtain ⟨he, hu, hi⟩ := h
  exact ⟨readByte_of_region he hu, writeByte_of_region he (ne_dma_of_region hi)⟩

/-- The echo is the working RAM 0x2000 below (20 R69). -/
theorem access_echo {a b : Word} {s : State} (v : Byte) (ha : regionOf a = .echo) (hb : b.toNat + 0x2000 = a.toNat) :
    readByte a s = readByte b s ∧ writeByte a v s = writeByte b v s := by
  obtain ⟨hlow, hhigh⟩ := regionOf_bounds a
  simp only [ha, Region.first, Region.bound] at hlow hhigh
  have hw : regionOf b = .wram :=
    regionOf_eq .wram (by simp only [Region.first]; omega) (by simp only [Region.bound]; omega)
  have hn : a.toNat - 0xE000 = b.toNat - 0xC000 := by omega
  obtain ⟨hra, hwa⟩ := access_of_region (s := s) v ha
  obtain ⟨hrb, hwb⟩ := access_of_region (s := s) v hw
  simp [hra, hwa, hrb, hwb, State.busValue, State.busStore, ha, hw, hn]

/-- A read of the unusable region gives its value of the moment; a write there does nothing (20 R71). -/
theorem access_unusable {a : Word} {s : State} (v : Byte) (hr : regionOf a = .unusable) :
    readByte a s = .ok s.unusableValue (s.afterRead a) ∧ writeByte a v s = .ok () s := by
  have hb : s.backed a = true := by simp [State.backed, hr]
  rw [readByte_backed hb, writeByte_of_region (by simp [hr]) (ne_dma_of_region (by simp [hr]))]
  simp [State.busValue, State.busStore, hr]

/-- Settles O31: each region's accesses, by its bounds. -/
theorem storageRegions : Obligations.StorageRegions := by
  intro s a v
  refine ⟨fun h h' => ?_, fun h h' => ?_, fun h h' => ?_, fun h h' => ?_, fun h h' => ?_, fun h => ?_,
    fun h h' => ?_⟩
  · have hr := regionOf_eq .vram h h'
    simpa [State.busValue, State.busStore, hr] using access_of_region (s := s) v hr
  · have hr := regionOf_eq .wram h h'
    simpa [State.busValue, State.busStore, hr] using access_of_region (s := s) v hr
  · exact access_echo v (regionOf_eq .echo h h') (by bv_omega)
  · have hr := regionOf_eq .oam h h'
    simpa [State.busValue, State.busStore, hr] using access_of_region (s := s) v hr
  · have hr := regionOf_eq .hram h h'
    simpa [State.busValue, State.busStore, hr] using access_of_region (s := s) v hr
  · have hr := regionOf_eq .ie (Nat.le_of_eq h.symm) a.isLt
    simpa [State.busValue, State.busStore, hr] using access_of_region (s := s) v hr
  · have hr := regionOf_eq .unusable h h'
    obtain ⟨hread, hwrite⟩ := access_unusable (s := s) v hr
    exact ⟨hwrite, fun hc => by simp [hread, State.unusableValue, State.afterRead, hr, hc],
      fun w hc => by simp [hread, State.unusableValue, State.afterRead, hr, hc]⟩

/-! ### ROM space (20 R64 to R66, R93 to R95) -/

/-- A write to ROM space is a write to the bank controller (20 R66). -/
theorem writeByte_romSpace {a : Word} (v : Byte) (s : State) (h : a.toNat < 0x8000) :
    writeByte a v s = .ok () (s.writeRomSpace a v) := by
  rcases Nat.lt_or_ge a.toNat 0x4000 with hl | hl
  · have hr := regionOf_eq .romFixed (Nat.zero_le _) hl
    simpa [State.busStore, hr] using (access_of_region (s := s) v hr).2
  · have hr := regionOf_eq .romSwitched hl h
    simpa [State.busStore, hr] using (access_of_region (s := s) v hr).2

/-- A read of the switchable window goes through the effective bank (20 R65, R95). -/
theorem readByte_romSwitched {a : Word} (s : State) (hl : 0x4000 ≤ a.toNat) (h : a.toNat < 0x8000) :
    readByte a s = .ok (s.cell .rom (s.effectiveBank * 0x4000 + (a.toNat - 0x4000))) s := by
  have hr := regionOf_eq .romSwitched hl h
  simpa [State.busValue, hr] using (access_of_region (s := s) 0 hr).1

/-- The effective bank of a bank controller is its register modulo the banks of the image (20 R92, R95). -/
theorem State.effectiveBank_banked {s : State} (h : s.cart.mbc ≠ .noMbc) :
    s.effectiveBank = s.mbc.romBank.toNat % 2 ^ (s.cart.romCode + 1) := by
  have hbanks : s.cart.romBanks = 2 ^ (s.cart.romCode + 1) := by
    rw [Cart.romBanks, Nat.shiftLeft_eq, Nat.pow_succ, Nat.mul_comm]
  rw [← hbanks]
  unfold State.effectiveBank
  split
  · next hn => exact absurd hn h
  all_goals rfl

/-- Settles O32: the two halves of ROM space by the bound bank controller. -/
theorem romSpace : Obligations.RomSpace := by
  intro s a v h
  refine ⟨⟨(s.writeRomSpace a v).mbc, ?_, fun hc => by simp [State.writeRomSpace, hc]⟩, fun hl => ?_,
    fun hl hc => ?_, fun hl hc => ?_⟩
  · rw [← State.writeRomSpace_eq, writeByte_romSpace v s h]
  · have hr := regionOf_eq .romFixed (Nat.zero_le _) hl
    simpa [State.busValue, hr] using (access_of_region (s := s) v hr).1
  · have hbank : s.effectiveBank = 1 := by simp [State.effectiveBank, hc]
    have hn : 1 * 0x4000 + (a.toNat - 0x4000) = a.toNat := by omega
    rw [readByte_romSwitched s hl h, hbank, hn]
  · rw [readByte_romSwitched s hl h, State.effectiveBank_banked hc]

/-! ### The register windows of MBC1 (20 R94), in numbers -/

theorem enablesRam_eq (v : Byte) : enablesRam v = decide (v.toNat % 16 = 10) := by
  revert v; decide

theorem bit_zero_eq (v : Byte) : bit v 0 = decide (v.toNat % 2 = 1) := by
  revert v; decide

theorem setWidth_and_three (v : Byte) : (v &&& 0x03).setWidth 2 = BitVec.ofNat 2 (v.toNat % 4) := by
  revert v; decide

/-- The low five bits of the bank number, 0 redirected to 1. -/
theorem redirectZero_toNat (v : Byte) :
    (redirectZero ((v &&& 0x1F).setWidth 7)).toNat = if v.toNat % 32 = 0 then 1 else v.toNat % 32 := by
  revert v; decide

/-- Bits 6 and 5 of the bank number kept, the low five replaced by a number below 32. -/
theorem replaceLow5 (b low : BitVec 7) (h : low.toNat < 32) :
    b &&& 0x60 ||| low = BitVec.ofNat 7 (b.toNat / 32 * 32 + low.toNat) := by
  have hb : (b &&& 0x60).toNat = 2 ^ 5 * (b.toNat / 32) := by revert b; decide
  apply BitVec.eq_of_toNat_eq
  rw [BitVec.toNat_or, hb, ← Nat.two_pow_add_eq_or_of_lt h, BitVec.toNat_ofNat, Nat.mod_eq_of_lt (by omega)]
  omega

/-- The low five bits of the bank number kept, bits 6 and 5 replaced by the two low bits of a byte. -/
theorem replaceHigh2 (b : BitVec 7) (v : Byte) :
    b &&& 0x1F#7 ||| (v &&& 0x03).setWidth 7 <<< 5 = BitVec.ofNat 7 (b.toNat % 32 + v.toNat % 4 * 32) := by
  have hb : (b &&& 0x1F#7).toNat = b.toNat % 32 := by revert b; decide
  have hv : ((v &&& 0x03).setWidth 7 <<< 5).toNat = 2 ^ 5 * (v.toNat % 4) := by revert v; decide
  have hlt : b.toNat % 32 + v.toNat % 4 * 32 < 2 ^ 7 := by omega
  apply BitVec.eq_of_toNat_eq
  rw [BitVec.toNat_or, hb, hv, Nat.or_comm, ← Nat.two_pow_add_eq_or_of_lt (Nat.mod_lt _ (by decide)),
    BitVec.toNat_ofNat, Nat.mod_eq_of_lt hlt]
  omega

/-- Settles O33: the four windows of `MbcRegs.writeMbc1`, each field in numbers. -/
theorem mbc1Windows : Obligations.Mbc1Windows := by
  intro s a v hm h
  have hw : writeByte a v s = .ok () { s with mbc := s.mbc.writeMbc1 a v } := by
    rw [writeByte_romSpace v s h, State.writeRomSpace, hm]
  refine ⟨_, hw, fun h1 => ?_, fun h1 h2 => ?_, fun h1 h2 hmode => ?_, fun h1 h2 hmode => ?_, fun h1 => ?_⟩
  · simp [MbcRegs.writeMbc1, h1, enablesRam_eq]
  · have hlow : (redirectZero ((v &&& 0x1F).setWidth 7)).toNat < 32 := by rw [redirectZero_toNat]; split <;> omega
    rw [MbcRegs.writeMbc1, if_neg (by omega), if_pos h2, replaceLow5 _ _ hlow, redirectZero_toNat]
  · rw [MbcRegs.writeMbc1, if_neg (by omega), if_neg (by omega), if_pos h2, if_neg (by simp [hmode])]
    exact congrArg (fun b => { s.mbc with romBank := b }) (replaceHigh2 s.mbc.romBank v)
  · rw [MbcRegs.writeMbc1, if_neg (by omega), if_neg (by omega), if_pos h2, if_pos hmode, setWidth_and_three]
  · rw [MbcRegs.writeMbc1, if_neg (by omega), if_neg (by omega), if_neg (by omega), bit_zero_eq]

/-! ### External RAM (20 R68, R96, R97, R101) -/

/-- On a cartridge without external RAM both accesses stop (20 R101). -/
theorem access_eram_absent {a : Word} {s : State} (v : Byte) (hr : regionOf a = .eram) (h0 : s.cart.ramSize = 0) :
    readByte a s = .stop (.invalidBankDispatch a) s ∧ writeByte a v s = .stop (.invalidBankDispatch a) s := by
  have hb : s.backed a = false := by simp [State.backed, hr, h0]
  exact ⟨readByte_unbacked hb, writeByte_unbacked hb⟩

/-- External RAM that exists is read and written through the bank controller (20 R68, R96). -/
theorem access_eram {a : Word} {s : State} (v : Byte) (hr : regionOf a = .eram) (h0 : s.cart.ramSize ≠ 0) :
    readByte a s = .ok (s.readEram a) s ∧ writeByte a v s = .ok () (s.writeEram a v) := by
  have hb : s.backed a = true := by simp [State.backed, hr, h0]
  have hd : a ≠ 0xFF46 := ne_dma_of_region (by simp [hr])
  rw [readByte_backed hb, writeByte_backed hb hd]
  simp [State.busValue, State.busStore, State.afterRead, hr]

/-- Disabled external RAM reads as 0xFF and ignores writes (20 R96). -/
theorem access_eram_disabled {a : Word} {s : State} (v : Byte) (hr : regionOf a = .eram) (h0 : s.cart.ramSize ≠ 0)
    (hi : s.eramIndex a = none) : readByte a s = .ok 0xFF s ∧ writeByte a v s = .ok () s := by
  simpa [State.readEram, State.writeEram, hi] using access_eram (s := s) v hr h0

/-- Enabled external RAM is a cell and the dirty flag (20 R96, R97). -/
theorem access_eram_enabled {a : Word} {s : State} {n : Nat} (v : Byte) (hr : regionOf a = .eram)
    (h0 : s.cart.ramSize ≠ 0) (hi : s.eramIndex a = some n) :
    readByte a s = .ok (s.cell .eram n) s ∧
      writeByte a v s = .ok () { s.setCell .eram n v with mbc := { s.mbc with dirty := true } } := by
  simpa [State.readEram, State.writeEram, hi] using access_eram (s := s) v hr h0

/-- Settles O34: external RAM absent, disabled, enabled, and without a bank controller. -/
theorem externalRam : Obligations.ExternalRam := by
  intro s a v h h'
  have hr := regionOf_eq .eram h h'
  exact ⟨fun h0 => access_eram_absent v hr h0,
    fun h0 hm hen => access_eram_disabled v hr h0 (by simp [State.eramIndex, hm, hen]),
    fun h0 hm hen => access_eram_enabled v hr h0 (by simp [State.eramIndex, hm, hen]),
    fun h0 hm => access_eram_enabled v hr h0 (by simp [State.eramIndex, hm])⟩

/-! ### The I/O page (20 R73 to R79) -/

theorem ioAddress_toNat {n : Nat} (h : n < 128) : (BitVec.ofNat 16 (0xFF00 + n)).toNat = 0xFF00 + n := by
  rw [BitVec.toNat_ofNat]; omega

theorem regionOf_ioAddress {n : Nat} (h : n < 128) : regionOf (BitVec.ofNat 16 (0xFF00 + n)) = .io :=
  regionOf_eq .io (by rw [ioAddress_toNat h]; exact Nat.le_add_right _ _)
    (by rw [ioAddress_toNat h, Region.bound]; omega)

/-- A write of an I/O byte but the DMA register (20 R73). -/
theorem writeByte_io {n : Nat} (v : Byte) (s : State) (h : n < 128) (hd : n ≠ 0x46) :
    writeByte (BitVec.ofNat 16 (0xFF00 + n)) v s = .ok () (s.writeIo n v) := by
  have hr := regionOf_ioAddress h
  have hne : BitVec.ofNat 16 (0xFF00 + n) ≠ 0xFF46 := fun he => by
    have hn := congrArg BitVec.toNat he
    rw [ioAddress_toNat h] at hn
    exact hd (Nat.add_left_cancel hn)
  rw [writeByte_of_region (by simp [hr]) hne, State.busStore]
  simp only [hr, ioAddress_toNat h, Nat.add_sub_cancel_left]

/-- A write of an I/O byte without an effect of its own stores it (20 R73). -/
theorem State.writeIo_plain (s : State) {n : Nat} (v : Byte)
    (h : n ∉ [0x04, 0x11, 0x14, 0x16, 0x19, 0x26, 0x41, 0x44]) : s.writeIo n v = s.setIo n v := by
  unfold State.writeIo
  split
  case h_9 => rfl
  all_goals exact absurd (by decide) h

/-- A read of an I/O byte but P1 gives the byte (20 R73). -/
theorem readByte_io {n : Nat} (s : State) (h : n < 128) (h0 : n ≠ 0) :
    readByte (BitVec.ofNat 16 (0xFF00 + n)) s = .ok (s.io n) s := by
  have hr := regionOf_ioAddress h
  have hp : ¬ 0xFF00 + n = 0xFF00 := by omega
  rw [readByte_of_region (by simp [hr]) (by simp [hr]), State.busValue]
  simp only [hr, ioAddress_toNat h, if_neg hp, Nat.add_sub_cancel_left]

/-- Settles O35: the arms of `State.writeIo` one by one, and the reads. -/
theorem ioWrites : Obligations.IoWrites := by
  intro s v
  refine ⟨writeByte_io (n := 0x04) v s (by decide) (by decide), writeByte_io (n := 0x44) v s (by decide) (by decide),
    writeByte_io (n := 0x41) v s (by decide) (by decide), writeByte_io (n := 0x26) v s (by decide) (by decide),
    fun n h hn => ?_, fun n h h0 => readByte_io s h h0⟩
  have hd : n ≠ 0x46 := by rintro rfl; exact hn (by decide)
  rw [writeByte_io v s h hd, State.writeIo_plain]
  intro hm
  exact hn (by simp only [List.mem_cons, List.not_mem_nil, or_false] at hm ⊢; omega)

/-! ### The joypad (20 R74) -/

/-- The direction buttons, one bit each. -/
theorem Buttons.bit_directions (b : Buttons) : bit b.directions 0 = b.right ∧ bit b.directions 1 = b.left ∧
    bit b.directions 2 = b.up ∧ bit b.directions 3 = b.down := by
  unfold Buttons.directions
  generalize b.right = r, b.left = l, b.up = u, b.down = d
  revert r l u d; decide

/-- The action buttons, one bit each. -/
theorem Buttons.bit_actions (b : Buttons) : bit b.actions 0 = b.a ∧ bit b.actions 1 = b.b ∧
    bit b.actions 2 = b.select ∧ bit b.actions 3 = b.start := by
  unfold Buttons.actions
  generalize b.a = a, b.b = b', b.select = e, b.start = t
  revert a b' e t; decide

/-- The four high bits of the shaped read: two ones and the two select bits (20 R74). -/
theorem bit_shapeP1_high (v : Byte) (b : Buttons) : bit (shapeP1 v b) 7 = true ∧ bit (shapeP1 v b) 6 = true ∧
    bit (shapeP1 v b) 5 = bit v 5 ∧ bit (shapeP1 v b) 4 = bit v 4 := by
  unfold shapeP1
  dsimp only
  split <;> split <;> simp [bit]

/-- A low bit of the shaped read is 0 where a selected button of its column is pressed (20 R74). -/
theorem bit_shapeP1_low (v : Byte) (b : Buttons) {i : Nat} (h : i < 4) : bit (shapeP1 v b) i =
    !((!(bit v 4) && bit b.directions i) || (!(bit v 5) && bit b.actions i)) := by
  have hmask : ∀ j < 4, (0x0F#8).getLsbD j = true ∧ (0xC0#8).getLsbD j = false ∧ (0x30#8).getLsbD j = false := by
    decide
  obtain ⟨h0F, hC0, h30⟩ := hmask i h
  have h8 : decide (i < 8) = true := decide_eq_true (by omega)
  unfold shapeP1
  cases hd : bit v 4 <;> cases ha : bit v 5 <;>
    simp only [bit, BitVec.ofNat_eq_ofNat, Bool.false_eq_true, if_true, if_false, BitVec.getLsbD_or, BitVec.getLsbD_and,
      BitVec.getLsbD_not, h0F, hC0, h30, h8, Bool.and_false, Bool.or_false, Bool.true_and, Bool.not_false,
      Bool.not_true, Bool.false_and, Bool.not_or, Bool.false_or]

/-- Settles O36: the plain write of P1, and its shaped read bit by bit. -/
theorem joypadRead : Obligations.JoypadRead := by
  intro s
  have hread : readByte 0xFF00 s = .ok (shapeP1 (s.io 0) s.buttons) s :=
    readByte_of_region (a := 0xFF00) (by decide) (by decide)
  have hlow (i : Nat) (h : i < 4) := bit_shapeP1_low (s.io 0) s.buttons h
  obtain ⟨h7, h6, h5, h4⟩ := bit_shapeP1_high (s.io 0) s.buttons
  obtain ⟨hd0, hd1, hd2, hd3⟩ := s.buttons.bit_directions
  obtain ⟨ha0, ha1, ha2, ha3⟩ := s.buttons.bit_actions
  exact ⟨fun w => writeByte_io (n := 0) w s (by decide) (by decide), _, hread, h7, h6, h5, h4,
    by rw [hlow 0 (by decide), hd0, ha0], by rw [hlow 1 (by decide), hd1, ha1], by rw [hlow 2 (by decide), hd2, ha2],
    by rw [hlow 3 (by decide), hd3, ha3]⟩

end Sys2Proof.Machine
end

section
/-! The DMA copy (20 R80): byte `i` of the page in cell `i` of the sprite table, although the page may be the table. -/
namespace Sys2Proof.Machine

/-- The state with other cells in the sprite table. -/
def State.withOam (s : State) (oam : Memory) : State := { s with mem := { s.mem with oam := oam } }

/-- The address byte `i` of the copy is read from. -/
theorem dmaSource_eq (page : Byte) (i : Nat) :
    wordOf page 0 + BitVec.ofNat 16 i = BitVec.ofNat 16 (page.toNat * 256 + i) := by
  have hp : (wordOf page 0).toNat = page.toNat * 256 := by
    rw [wordOf, BitVec.toNat_append, Nat.shiftLeft_eq]
    exact Nat.or_zero _
  apply BitVec.eq_of_toNat_eq
  rw [BitVec.toNat_add, hp, BitVec.toNat_ofNat, BitVec.toNat_ofNat, Nat.add_mod_mod]

theorem dmaSource_toNat (page : Byte) {i : Nat} (h : i < 160) :
    (wordOf page 0 + BitVec.ofNat 16 i).toNat = page.toNat * 256 + i := by
  rw [dmaSource_eq, BitVec.toNat_ofNat]; omega

/-- A page's first 160 bytes do not reach the unusable region. -/
theorem dmaSource_ne_unusable (page : Byte) {i : Nat} (h : i < 160) :
    regionOf (wordOf page 0 + BitVec.ofNat 16 i) ≠ .unusable := by
  intro hr
  have hb := regionOf_bounds (wordOf page 0 + BitVec.ofNat 16 i)
  simp only [hr, Region.first, Region.bound, dmaSource_toNat page h] at hb
  omega

/-- Where byte `i` of a page lies in the sprite table, it is cell `i`. -/
theorem dmaSource_oam (page : Byte) {i : Nat} (h : i < 160)
    (hr : regionOf (wordOf page 0 + BitVec.ofNat 16 i) = .oam) :
    (wordOf page 0 + BitVec.ofNat 16 i).toNat - 0xFE00 = i := by
  have hb := regionOf_bounds (wordOf page 0 + BitVec.ofNat 16 i)
  simp only [hr, Region.first, Region.bound, dmaSource_toNat page h] at hb
  rw [dmaSource_toNat page h]
  omega

/-- Storing a sprite byte changes what no other address reads. -/
theorem State.busValue_setCell_oam (s : State) {a : Word} {n : Nat} (v : Byte)
    (h : regionOf a = .oam → a.toNat - 0xFE00 ≠ n) : (s.setCell .oam n v).busValue a = s.busValue a := by
  unfold State.busValue
  split
  case h_7 hr => exact s.cell_setCell_other v (.inr (h hr))
  all_goals rfl

/-- The copy, byte by byte: since a source inside the sprite table is the cell it is copied to, what is read is what the
table held before the copy (20 R80). -/
theorem dmaCopy_cells {page : Byte} {count i : Nat} {s : State} (hi : i + count ≤ 160)
    (hb : ∀ k, i ≤ k → k < i + count → s.backed (wordOf page 0 + BitVec.ofNat 16 k) = true) :
    ∃ oam, dmaCopy page count i s = .ok () (s.withOam oam) ∧ ∀ k, (s.withOam oam).cell .oam k =
      if i ≤ k ∧ k < i + count then s.busValue (wordOf page 0 + BitVec.ofNat 16 k) else s.cell .oam k := by
  induction count generalizing i s with
  | zero => exact ⟨s.mem.oam, rfl, fun k => by rw [if_neg (by omega)]; rfl⟩
  | succ count ih =>
    have hread : s.afterRead (wordOf page 0 + BitVec.ofNat 16 i) = s := by
      have := dmaSource_ne_unusable page (i := i) (by omega)
      unfold State.afterRead; split <;> trivial
    obtain ⟨oam, hcopy, hcells⟩ := ih (i := i + 1)
      (s := s.setCell .oam i (s.busValue (wordOf page 0 + BitVec.ofNat 16 i))) (by omega)
      fun k hk hk' => hb k (by omega) (by omega)
    refine ⟨oam, ?_, fun k => ?_⟩
    · rw [dmaCopy, readByte_backed (hb i (by omega) (by omega)), hread]
      exact hcopy
    · refine (hcells k).trans ?_
      rcases Nat.lt_trichotomy k i with hk | rfl | hk
      · rw [if_neg (by omega), if_neg (by omega), s.cell_setCell_other _ (.inr (by omega))]
      · rw [if_neg (by omega), if_pos (by omega), s.cell_setCell_same]
      · by_cases hc : k < i + (count + 1)
        · rw [if_pos (by omega), if_pos (by omega)]
          refine s.busValue_setCell_oam _ fun hr => ?_
          rw [dmaSource_oam page (by omega) hr]
          omega
        · rw [if_neg (by omega), if_neg (by omega), s.cell_setCell_other _ (.inr (by omega))]

theorem writeByte_dma (v : Byte) (s : State) : writeByte 0xFF46 v s = writeDma v s := by
  have hb : s.backed 0xFF46 = true := rfl
  rw [writeByte, if_pos hb, if_pos rfl]

/-- Settles O37: the copy cell by cell (`dmaCopy_cells`), and its stop at the first byte of an absent page. -/
theorem dmaCopy_spec : Obligations.DmaCopy := by
  intro s v hlen
  rw [writeByte_dma, writeDma]
  refine ⟨fun hready => ?_, fun hpos h0 hlow hhigh => ?_⟩
  · obtain ⟨oam, hcopy, hcells⟩ := dmaCopy_cells (page := v) (i := 0) (count := s.cfg.dmaLength)
      (s := s.setIo ioDMA v) (by omega) fun k _ hk => List.all_eq_true.mp hready k (List.mem_range.mpr (by omega))
    refine ⟨_, hcopy, rfl, fun n => ?_, fun i hi => ?_, fun i hi => ?_⟩
    · show (s.setIo ioDMA v).io n = _
      split
      · next hn => rw [hn]; exact s.io_setIo_same _ v
      · next hn => exact s.io_setIo_other v hn
    · rw [hcells i, if_pos (by omega), dmaSource_eq]
    · rw [hcells i, if_neg (by omega)]
      rfl
  · have hn := dmaSource_toNat v (i := 0) (by decide)
    have hr : regionOf (wordOf v 0 + BitVec.ofNat 16 0) = .eram :=
      regionOf_eq .eram (by rw [hn, Region.first]; omega) (by rw [hn, Region.bound]; omega)
    obtain ⟨hread, -⟩ := access_eram_absent (s := s.setIo ioDMA v) 0 hr h0
    obtain ⟨count, hcount⟩ := Nat.exists_eq_succ_of_ne_zero hpos.ne'
    rw [hcount, dmaCopy, hread, dmaSource_eq, Nat.add_zero]

end Sys2Proof.Machine
end

section
/-! What an instruction does outside the CPU: it reads, and it writes to the addresses of `storedAddresses`. A predicate
that the CPU, the draw counter and those writes keep is kept by the instruction (`instrStores`). -/
namespace Sys2Proof.Machine

/-! ### What no instruction changes (20 R66, 60 R355) -/

/-- The parts of the machine that no instruction changes. -/
structure State.SameFixedParts (s t : State) : Prop where
  rom : t.mem.rom = s.mem.rom
  framebuffer : t.mem.framebuffer = s.mem.framebuffer
  cart : t.cart = s.cart
  buttons : t.buttons = s.buttons
  video : t.video = s.video
  cfg : t.cfg = s.cfg
  boots : t.boots = s.boots
  hostPlan : t.hostPlan = s.hostPlan

theorem State.SameFixedParts.refl (s : State) : s.SameFixedParts s := ⟨rfl, rfl, rfl, rfl, rfl, rfl, rfl, rfl⟩

theorem State.SameFixedParts.busChange {s t u : State} (h : s.SameFixedParts t) (k : t.BusChange u) :
    s.SameFixedParts u :=
  ⟨k.rom.trans h.rom, k.framebuffer.trans h.framebuffer, k.cart.trans h.cart, k.buttons.trans h.buttons,
    k.video.trans h.video, k.cfg.trans h.cfg, k.boots.trans h.boots, k.hostPlan.trans h.hostPlan⟩

theorem State.SameFixedParts.onCpu {s t : State} (h : s.SameFixedParts t) (f : Cpu → Cpu) :
    s.SameFixedParts (t.onCpu f) :=
  ⟨h.rom, h.framebuffer, h.cart, h.buttons, h.video, h.cfg, h.boots, h.hostPlan⟩

theorem State.SameFixedParts.draws {s t : State} (h : s.SameFixedParts t) (n : Nat) :
    s.SameFixedParts { t with draws := n } :=
  ⟨h.rom, h.framebuffer, h.cart, h.buttons, h.video, h.cfg, h.boots, h.hostPlan⟩

theorem kept_sameFixedParts (s : State) : Kept s.SameFixedParts where
  cpu _ c _ h := h.onCpu fun _ => c
  read t a h := by rw [State.afterRead_eq]; exact h.draws _
  store t a v _ h := h.busChange (t.busChange_busStore a v)
  dmaByte t n v _ h := h.busChange (t.busChange_setCell n v (by simp))
  dmaRegister t v h := h.busChange (t.busChange_setIo _ v)
  stop _ _ h := h.onCpu _

theorem exec_sameFixedParts {i : Instr} {s t : State} (h : exec i s = .next t) : s.SameFixedParts t :=
  exec_keeps (kept_sameFixedParts s) (.refl s) i h

/-- Settles O30: the fixed parts are kept by the few things an instruction does (`Kept`). -/
theorem nothingWritesRom : Obligations.NothingWritesRom := by
  intro i s t h
  obtain ⟨hrom, hframe, hcart, hbuttons, hvideo, hcfg, hboots, hplan⟩ := exec_sameFixedParts h
  exact ⟨hrom, hframe, hcart, hbuttons, hvideo, hcfg, hboots, hplan⟩

/-! ### A write on the bus -/

/-- A predicate holds after a write, stopped or not, when it holds before, after the effect of the address's region, and
throughout a copy where the address is the DMA register (20 R63, R80, R101). -/
theorem writeByte_holds {Q : State → Prop} {a : Word} {v : Byte} {s : State} (h : Q s)
    (hstore : s.backed a = true → a ≠ 0xFF46 → Q (s.busStore a v))
    (hregister : a = 0xFF46 → Q (s.setIo ioDMA v))
    (hread : a = 0xFF46 → ∀ t b, Q t → Q (t.afterRead b))
    (hbyte : a = 0xFF46 → ∀ t n w, Q t → Q (t.setCell .oam n w)) : (writeByte a v s).Holds Q := by
  unfold writeByte
  split
  · next hb =>
    split
    · next hd => exact dmaCopy_holds (le_refl _) (hread hd) (fun t n w _ ht => hbyte hd t n w ht) (hregister hd)
    · next hd => exact hstore hb hd
  · exact h

/-- No write changes the CPU (20 R63). -/
theorem writeByte_cpu (a : Word) (v : Byte) (s : State) : (writeByte a v s).state.cpu = s.cpu :=
  writeByte_holds (Q := fun t => t.cpu = s.cpu) rfl (fun _ _ => (s.busChange_busStore a v).cpu) (fun _ => rfl)
    (fun _ t b ht => (t.afterRead_cpu b).trans ht) (fun _ _ _ _ ht => ht)

theorem writeByte_ok_cpu {a : Word} {v : Byte} {x : Unit} {s t : State} (h : writeByte a v s = .ok x t) :
    t.cpu = s.cpu := by
  have hc := writeByte_cpu a v s
  rwa [h] at hc

theorem writeByte_stop_cpu {a : Word} {v : Byte} {info : Fault} {s t : State} (h : writeByte a v s = .stop info t) :
    t.cpu = s.cpu := by
  have hc := writeByte_cpu a v s
  rwa [h] at hc

/-! ### Predicates kept by writes to given addresses -/

/-- A predicate kept by changes of the CPU and of the draw counter, and by writes to the addresses listed. -/
structure StoreKept (stored : List Word) (Q : State → Prop) : Prop where
  cpu : ∀ s c, Q s → Q { s with cpu := c }
  draws : ∀ s n, Q s → Q { s with draws := n }
  write : ∀ s a v, a ∈ stored → Q s → (writeByte a v s).Holds Q

section
variable {stored : List Word} {Q : State → Prop} (k : StoreKept stored Q) {s : State}
include k

theorem StoreKept.onCpu (f : Cpu → Cpu) (h : Q s) : Q (s.onCpu f) := k.cpu s _ h

theorem StoreKept.changed {α : Type} {v : α} (f : Cpu → Cpu) (h : Q s) : (Access.ok v (s.onCpu f)).Holds Q :=
  k.onCpu f h

/-- The CPU changes after an access. -/
theorem StoreKept.changeAfter {α : Type} {x : Access α} {f : α → Cpu → Cpu} (hx : x.Holds Q) :
    (x.andThen fun v s1 => (.ok () (s1.onCpu (f v)) : Access Unit)).Holds Q :=
  Access.holds_andThen hx fun v _ _ h1 => k.onCpu (f v) h1

theorem StoreKept.readByte (a : Word) (h : Q s) : (readByte a s).Holds Q := by
  cases hb : s.backed a with
  | true => rw [readByte_backed hb, State.afterRead_eq]; exact k.draws s _ h
  | false => rw [readByte_unbacked hb]; exact h

theorem StoreKept.pop16 (h : Q s) : (pop16 s).Holds Q :=
  Access.holds_andThen (k.readByte _ h) fun _ _ _ h1 =>
    Access.holds_andThen (k.readByte _ (k.onCpu _ h1)) fun _ _ _ h2 => k.changed _ h2

/-- A push writes below `SP` and below that (00 R10). -/
theorem StoreKept.push16 (v : Word) (hp : ∀ a ∈ s.pushed, a ∈ stored) (h : Q s) : (push16 v s).Holds Q := by
  rw [push16_eq]
  refine Access.holds_andThen (k.write _ _ _ (hp _ (by simp [State.pushed])) (k.onCpu _ h)) fun _ t ht h1 =>
    k.write _ _ _ ?_ (k.onCpu _ h1)
  have hsp : t.cpu.sp - 1 = s.cpu.sp - 2 := by
    rw [writeByte_ok_cpu ht, State.onCpu_cpu, Cpu.setSp_sp]; bv_omega
  exact hsp ▸ hp _ (by simp [State.pushed])

theorem StoreKept.callTo (target : Word) (hp : ∀ a ∈ s.pushed, a ∈ stored) (h : Q s) :
    (callTo target s).Holds Q :=
  k.changeAfter (k.push16 _ hp h)

theorem StoreKept.writeWord {a : Word} (v : Word) (h0 : a ∈ stored) (h1 : a + 1 ∈ stored) (h : Q s) :
    (writeWord a v s).Holds Q :=
  Access.holds_andThen (k.write _ _ _ h0 h) fun _ t _ ht => k.write t _ _ h1 ht

theorem StoreKept.modifyHl (result : Byte → Flags → Byte) (flags : Byte → Flags → Option Flags)
    (hl : s.cpu.hl ∈ stored) (h : Q s) : (modifyHl result flags s).Holds Q :=
  Access.holds_andThen (k.readByte _ h) fun v t ht h1 => by
    obtain ⟨-, -, rfl⟩ := readByte_ok_iff.mp ht
    refine Access.holds_andThen (k.write _ _ _ (by rwa [State.afterRead_cpu]) h1) fun _ u _ h2 => ?_
    split
    · exact k.changed _ h2
    · exact h2

end

/-! ### Handlers -/

/-- A handler of instruction `i` that writes only to the addresses `i` stores to, whether it goes through or stops. -/
def StoringHandler (i : Instr) (handler : State → Access Unit) : Prop :=
  ∀ (Q : State → Prop) (s : State), StoreKept (storedAddresses i s) Q → Q s → (handler s).Holds Q

section
variable {i : Instr}

theorem StoringHandler.cpuOnly (f : State → Cpu → Cpu) : StoringHandler i fun s => cpuOnly (f s) s :=
  fun _ _ k h => k.onCpu _ h

theorem StoringHandler.loadA (a : State → Word) : StoringHandler i fun s => loadA (a s) s :=
  fun _ _ k h => k.changeAfter (k.readByte _ h)

theorem StoringHandler.write (a : State → Word) (v : State → Byte) (ha : ∀ s, a s ∈ storedAddresses i s) :
    StoringHandler i fun s => writeByte (a s) (v s) s :=
  fun _ s k h => k.write s _ _ (ha s) h

theorem StoringHandler.storeA (a : State → Word) (ha : ∀ s, a s ∈ storedAddresses i s) :
    StoringHandler i fun s => storeA (a s) s :=
  .write a (fun s => s.cpu.a) ha

theorem StoringHandler.withHl (f : Byte → Cpu → Cpu) : StoringHandler i (withHl f) :=
  fun _ _ k h => k.changeAfter (k.readByte _ h)

theorem StoringHandler.modifyHl (result : Byte → Flags → Byte) (flags : Byte → Flags → Option Flags)
    (hl : ∀ s, s.cpu.hl ∈ storedAddresses i s) : StoringHandler i (modifyHl result flags) :=
  fun _ s k h => k.modifyHl result flags (hl s) h

theorem StoringHandler.thenMoveHl (delta : Word) {handler : State → Access Unit} (hh : StoringHandler i handler) :
    StoringHandler i fun s => thenMoveHl delta (handler s) :=
  fun _ _ k h => k.changeAfter (hh _ _ k h)

theorem StoringHandler.pop (f : Word → Cpu → Cpu) :
    StoringHandler i fun s => (pop16 s).andThen fun v s1 => .ok () (s1.onCpu (f v)) :=
  fun _ _ k h => k.changeAfter (k.pop16 h)

theorem StoringHandler.callTo (target : Word) (hp : ∀ s, storedAddresses i s = s.pushed) :
    StoringHandler i (callTo target) :=
  fun _ s k h => k.callTo target (fun _ ha => hp s ▸ ha) h

/-- A handler that acts when a condition holds may then store where the instruction does. -/
theorem StoringHandler.whenTaken (cc : Cond) (extra : Nat) {handler : State → Access Unit}
    (hh : ∀ (Q : State → Prop) (s : State), condHolds cc s.cpu.flags = true → StoreKept (storedAddresses i s) Q →
      Q s → (handler s).Holds Q) : StoringHandler i (whenTaken cc extra handler) := fun Q s k h => by
  unfold Machine.whenTaken
  split
  · next hc => exact k.changeAfter (hh Q s hc k h)
  · exact h

end

/-! ### Instructions -/

/-- The addresses do not depend on `PC`. -/
theorem storedAddresses_setPc (i : Instr) (s : State) (f : Cpu → Word) :
    storedAddresses i (s.onCpu fun c => c.setPc (f c)) = storedAddresses i s := by
  unfold storedAddresses; rfl

/-- What is kept by the writes to the addresses an instruction stores to is kept by the instruction. -/
def InstrStores (i : Instr) : Prop :=
  ∀ (Q : State → Prop) (s t : State), StoreKept (storedAddresses i s) Q → Q s → exec i s = .next t → Q t

section
variable {i : Instr} {len ticks : Nat}

theorem InstrStores.of_handler {handler : State → Access Unit} (he : ∀ s, exec i s = runOp len ticks handler s)
    (hh : StoringHandler i handler) : InstrStores i := fun Q s _ k h hn =>
  have hs := hh Q (s.onCpu fun c => c.setPc (c.pc + BitVec.ofNat 16 len)) (by rwa [storedAddresses_setPc])
    (k.onCpu _ h)
  runOp_holds hs (fun _ hu => k.onCpu _ hu) (fun _ _ hu => k.onCpu _ hu) (he s ▸ hn)

theorem InstrStores.of_cpu {f : Cpu → Cpu} (he : ∀ s, exec i s = runOp len ticks (cpuOnly f) s) : InstrStores i :=
  .of_handler he (.cpuOnly fun _ => f)

theorem InstrStores.of_illegal {op : IllegalOp} (he : ∀ s, exec i s = raiseUnimplemented op s) : InstrStores i := by
  intro Q s t k h hn
  rw [he] at hn
  cases hn
  exact k.onCpu _ h

end

/-- The instructions that push, call and restart store below `SP`. -/
theorem storedAddresses_pushRp2 (p : Rp2) (s : State) : storedAddresses (.pushRp2 p) s = s.pushed := by cases p <;> rfl
theorem storedAddresses_rst (b : Oct) (s : State) : storedAddresses (.rst b) s = s.pushed := by cases b <;> rfl
theorem storedAddresses_callCc {cc : Cond} (n16 : Word) {s : State} (h : condHolds cc s.cpu.flags = true) :
    storedAddresses (.callCc cc n16) s = s.pushed := by
  cases cc <;> exact if_pos h

/-- The instructions on the byte at `HL` that write it store there. -/
theorem hl_mem_ldHlR (r : R8) (s : State) : s.cpu.hl ∈ storedAddresses (.ldHlR r) s := by
  cases r <;> exact List.mem_singleton_self _
theorem hl_mem_rotHl (op : RotOp) (s : State) : s.cpu.hl ∈ storedAddresses (.rotHl op) s := by
  cases op <;> exact List.mem_singleton_self _
theorem hl_mem_resHl (b : Oct) (s : State) : s.cpu.hl ∈ storedAddresses (.resHl b) s := by
  cases b <;> exact List.mem_singleton_self _
theorem hl_mem_setHl (b : Oct) (s : State) : s.cpu.hl ∈ storedAddresses (.setHl b) s := by
  cases b <;> exact List.mem_singleton_self _

/-- Every instruction writes only to the addresses it stores to. -/
theorem instrStores (i : Instr) : InstrStores i := by
  refine Instr.byShape (P := InstrStores) (i := i)
    (ldRR := fun r r' => .of_cpu (exec_ldRR r r'))
    (ldRImm := fun r v => .of_cpu (exec_ldRImm r v))
    (ldRHl := fun r => .of_handler (exec_ldRHl r) (.withHl _))
    (ldHlR := fun r => .of_handler (exec_ldHlR r) (.write _ _ (hl_mem_ldHlR r)))
    (ldRpImm := fun p v => .of_cpu (exec_ldRpImm p v))
    (pushRp2 := fun p => .of_handler (exec_pushRp2 p) fun _ s k h =>
      k.push16 _ (fun _ ha => storedAddresses_pushRp2 p s ▸ ha) h)
    (popRp2 := fun p => .of_handler (exec_popRp2 p) (.pop _))
    (aluR := fun op r => .of_cpu (exec_aluR op r))
    (aluHl := fun op => .of_handler (exec_aluHl op) (.withHl _))
    (aluImm := fun op v => .of_cpu (exec_aluImm op v))
    (incR := fun r => .of_cpu (exec_incR r))
    (decR := fun r => .of_cpu (exec_decR r))
    (addHlRp := fun p => .of_cpu (exec_addHlRp p))
    (incRp := fun p => .of_cpu (exec_incRp p))
    (decRp := fun p => .of_cpu (exec_decRp p))
    (rotR := fun op r => .of_cpu (exec_rotR op r))
    (rotHl := fun op => .of_handler (exec_rotHl op) (.modifyHl _ _ (hl_mem_rotHl op)))
    (bitR := fun b r => .of_cpu (exec_bitR b r))
    (bitHl := fun b => .of_handler (exec_bitHl b) (.withHl _))
    (resR := fun b r => .of_cpu (exec_resR b r))
    (resHl := fun b => .of_handler (exec_resHl b) (.modifyHl _ _ (hl_mem_resHl b)))
    (setR := fun b r => .of_cpu (exec_setR b r))
    (setHl := fun b => .of_handler (exec_setHl b) (.modifyHl _ _ (hl_mem_setHl b)))
    (jpCc := fun cc v => .of_handler (exec_jpCc cc v) (.whenTaken cc _ fun _ _ _ k h => k.changed _ h))
    (jrCc := fun cc v => .of_handler (exec_jrCc cc v) (.whenTaken cc _ fun _ _ _ k h => k.changed _ h))
    (callCc := fun cc v => .of_handler (exec_callCc cc v) (.whenTaken cc _ fun _ _ hc k h =>
      k.callTo v (fun _ ha => storedAddresses_callCc v hc ▸ ha) h))
    (retCc := fun cc => .of_handler (exec_retCc cc) (.whenTaken cc _ fun _ _ _ k h => k.changeAfter (k.pop16 h)))
    (rst := fun b => .of_handler (exec_rst b) (.callTo _ (storedAddresses_rst b)))
    (illegal := fun op => .of_illegal (exec_illegal op))
    (nop := .of_cpu (f := id) fun _ => rfl)
    (ld_atBC_A := .of_handler (fun _ => rfl) (.storeA (fun s => s.cpu.bc) fun _ => List.mem_singleton_self _))
    (rlca := .of_cpu fun _ => rfl)
    (ld_atA16_SP := fun v => .of_handler (fun _ => rfl) fun _ s k h =>
      k.writeWord (a := v) s.cpu.sp (List.mem_cons_self ..) (List.mem_cons_of_mem _ (List.mem_singleton_self _)) h)
    (ld_A_atBC := .of_handler (fun _ => rfl) (.loadA fun s => s.cpu.bc))
    (rrca := .of_cpu fun _ => rfl)
    (stop := fun _ => .of_cpu fun _ => rfl)
    (ld_atDE_A := .of_handler (fun _ => rfl) (.storeA (fun s => s.cpu.de) fun _ => List.mem_singleton_self _))
    (rla := .of_cpu fun _ => rfl)
    (jr_e8 := fun v => .of_handler (handler := jumpRelative v) (fun _ => rfl) fun _ _ k h => k.changed _ h)
    (ld_A_atDE := .of_handler (fun _ => rfl) (.loadA fun s => s.cpu.de))
    (rra := .of_cpu fun _ => rfl)
    (ld_atHLI_A := .of_handler (fun _ => rfl)
      (.thenMoveHl 1 (.storeA (fun s => s.cpu.hl) fun _ => List.mem_singleton_self _)))
    (daa := .of_cpu fun _ => rfl)
    (ld_A_atHLI := .of_handler (fun _ => rfl) (.thenMoveHl 1 (.loadA fun s => s.cpu.hl)))
    (cpl := .of_cpu fun _ => rfl)
    (ld_atHLD_A := .of_handler (fun _ => rfl)
      (.thenMoveHl (-1) (.storeA (fun s => s.cpu.hl) fun _ => List.mem_singleton_self _)))
    (inc_atHL := .of_handler (fun _ => rfl) (.modifyHl _ _ fun _ => List.mem_singleton_self _))
    (dec_atHL := .of_handler (fun _ => rfl) (.modifyHl _ _ fun _ => List.mem_singleton_self _))
    (ld_atHL_d8 := fun v => .of_handler (fun _ => rfl)
      (.write (fun s => s.cpu.hl) (fun _ => v) fun _ => List.mem_singleton_self _))
    (scf := .of_cpu fun _ => rfl)
    (ld_A_atHLD := .of_handler (fun _ => rfl) (.thenMoveHl (-1) (.loadA fun s => s.cpu.hl)))
    (ccf := .of_cpu fun _ => rfl)
    (halt := .of_cpu fun _ => rfl)
    (jp_a16 := fun v => .of_handler (handler := jumpTo v) (fun _ => rfl) fun _ _ k h => k.changed _ h)
    (ret := .of_handler (handler := returnToCaller) (fun _ => rfl) fun _ _ k h => k.changeAfter (k.pop16 h))
    (call_a16 := fun v => .of_handler (fun _ => rfl) (.callTo v fun _ => rfl))
    (reti := .of_handler (handler := returnFromInterrupt) (fun _ => rfl) fun _ _ k h => k.changeAfter (k.pop16 h))
    (ldh_atA8_A := fun v => .of_handler (fun _ => rfl)
      (.storeA (fun _ => highPage v) fun _ => List.mem_singleton_self _))
    (ld_atC_A := .of_handler (fun _ => rfl)
      (.storeA (fun s => highPage s.cpu.c) fun _ => List.mem_singleton_self _))
    (add_SP_e8 := fun _ => .of_cpu fun _ => rfl)
    (jp_HL := .of_handler (handler := fun s => jumpTo s.cpu.hl s) (fun _ => rfl) fun _ _ k h => k.changed _ h)
    (ld_atA16_A := fun v => .of_handler (fun _ => rfl)
      (.storeA (fun _ => v) fun _ => List.mem_singleton_self _))
    (ldh_A_atA8 := fun v => .of_handler (fun _ => rfl) (.loadA fun _ => highPage v))
    (ld_A_atC := .of_handler (fun _ => rfl) (.loadA fun s => highPage s.cpu.c))
    (di := .of_cpu fun _ => rfl)
    (ld_HL_SP_e8 := fun _ => .of_cpu fun _ => rfl)
    (ld_SP_HL := .of_cpu fun _ => rfl)
    (ld_A_atA16 := fun v => .of_handler (fun _ => rfl) (.loadA fun _ => v))
    (ei := .of_handler (handler := enableInterrupts) (fun _ => rfl) fun _ _ k h => k.changed _ h)

/-! ### Instructions that store nothing (20 R62, R63) -/

theorem State.sameOutsideCpu.change {s t : State} (h : s.sameOutsideCpu t) (c : Cpu) (n : Nat) :
    s.sameOutsideCpu { t with cpu := c, draws := n } := by
  have hc := congrArg (fun u : State => { u with cpu := c, draws := n }) h
  exact hc

theorem storeKept_sameOutsideCpu (s : State) : StoreKept [] s.sameOutsideCpu where
  cpu t c h := h.change c t.draws
  draws t n h := h.change t.cpu n
  write _ _ _ ha _ := absurd ha List.not_mem_nil

/-- What is read outside the unusable region depends neither on the CPU nor on the draw counter. -/
theorem State.sameOutsideCpu.busValue {s t : State} (h : s.sameOutsideCpu t) {a : Word}
    (ha : regionOf a ≠ .unusable) : t.busValue a = s.busValue a := by
  rw [h]
  unfold State.busValue
  split
  case h_8 hr => exact absurd hr ha
  all_goals rfl

/-- Settles O25: an instruction without a store is made of changes of the CPU and of reads (`instrStores`). -/
theorem nonStoringFrame : Obligations.NonStoringFrame := by
  intro i s t h0 hn
  have ht : s.sameOutsideCpu t := instrStores i _ s t (h0 ▸ storeKept_sameOutsideCpu s) rfl hn
  exact ⟨ht, fun a ha => ht.busValue ha⟩

end Sys2Proof.Machine
end

section
/-! What a write on the bus leaves of the cells, the I/O bytes and the devices (20 R63, R73 to R80, R96, R97), and so
what an instruction leaves that stores to given addresses. -/
namespace Sys2Proof.Machine

/-! ### The frame of the writes to given addresses -/

/-- What writes to the addresses listed leave of a state: a cell, an I/O byte, `IE`, the bank controller and the
devices' own state change only by a write to their addresses; the DMA register reaches the sprite table, a trigger
NR52. -/
structure State.StoreFrame (stored : List Word) (s t : State) : Prop where
  cart : t.cart = s.cart
  cells : ∀ st n, st ≠ .io → (∀ a ∈ stored, s.plainCell a ≠ some (st, n)) → (0xFF46#16 ∉ stored ∨ st ≠ .oam) →
    t.cell st n = s.cell st n
  io : ∀ k, k ≠ 0x26 → (∀ a ∈ stored, a.toNat ≠ 0xFF00 + k) → t.io k = s.io k
  nr52 : (∀ a ∈ stored, a ∉ [0xFF14#16, 0xFF19#16, 0xFF26#16]) → t.io 0x26 = s.io 0x26
  ioPage : (∀ a ∈ stored, regionOf a ≠ .io) → t.mem.io = s.mem.io
  ie : 0xFFFF#16 ∉ stored → t.mem.ie = s.mem.ie
  mbc : (∀ a ∈ stored, 0x8000 ≤ a.toNat) → t.mbc = { s.mbc with dirty := t.mbc.dirty }
  dirty : (∀ a ∈ stored, regionOf a ≠ .eram) → t.mbc.dirty = s.mbc.dirty
  timer : 0xFF04#16 ∉ stored → t.timer = s.timer
  audio : (∀ a ∈ stored, a ∉ [0xFF11#16, 0xFF14#16, 0xFF16#16, 0xFF19#16]) → t.audio = s.audio

theorem State.StoreFrame.refl (stored : List Word) (s : State) : s.StoreFrame stored s :=
  ⟨rfl, fun _ _ _ _ _ => rfl, fun _ _ _ => rfl, fun _ => rfl, fun _ => rfl, fun _ => rfl, fun _ => rfl, fun _ => rfl,
    fun _ => rfl, fun _ => rfl⟩

/-- The CPU and the draw counter are outside the frame. -/
theorem State.StoreFrame.change {stored : List Word} {s t : State} (h : s.StoreFrame stored t) (c : Cpu) (n : Nat) :
    s.StoreFrame stored { t with cpu := c, draws := n } :=
  ⟨h.cart, h.cells, h.io, h.nr52, h.ioPage, h.ie, h.mbc, h.dirty, h.timer, h.audio⟩

theorem State.StoreFrame.afterRead {stored : List Word} {s t : State} (h : s.StoreFrame stored t) (a : Word) :
    s.StoreFrame stored (t.afterRead a) := by
  rw [State.afterRead_eq]; exact h.change t.cpu _

theorem State.StoreFrame.mono {stored stored' : List Word} {s t : State} (h : s.StoreFrame stored t)
    (hs : stored ⊆ stored') : s.StoreFrame stored' t where
  cart := h.cart
  cells st n hst hc hd := h.cells st n hst (fun a ha => hc a (hs ha)) (hd.imp_left fun hn ha => hn (hs ha))
  io k hk hc := h.io k hk fun a ha => hc a (hs ha)
  nr52 hc := h.nr52 fun a ha => hc a (hs ha)
  ioPage hc := h.ioPage fun a ha => hc a (hs ha)
  ie hc := h.ie fun ha => hc (hs ha)
  mbc hc := h.mbc fun a ha => hc a (hs ha)
  dirty hc := h.dirty fun a ha => hc a (hs ha)
  timer hc := h.timer fun ha => hc (hs ha)
  audio hc := h.audio fun a ha => hc a (hs ha)

section
variable {s t : State}

/-- The bank at 0x4000 to 0x7FFF depends on the cartridge and the bank controller. -/
theorem State.effectiveBank_congr (hc : t.cart = s.cart) (hm : t.mbc = { s.mbc with dirty := t.mbc.dirty }) :
    t.effectiveBank = s.effectiveBank := by
  unfold State.effectiveBank; rw [hc, hm]

/-- The byte of external RAM at an address depends on the cartridge and the bank controller. -/
theorem State.eramIndex_congr (hc : t.cart = s.cart) (hm : t.mbc = { s.mbc with dirty := t.mbc.dirty }) (a : Word) :
    t.eramIndex a = s.eramIndex a := by
  unfold State.eramIndex; rw [hc, hm]

theorem State.cell_congr {st : Store} (hm : t.mem.get st = s.mem.get st) (hb : t.boots = s.boots) (n : Nat) :
    t.cell st n = s.cell st n := by
  unfold State.cell; rw [hm, hb]

/-- The cell an address names depends on the cartridge and, in external RAM, on the bank controller. -/
theorem State.plainCell_congr {a : Word} (hc : t.cart = s.cart)
    (hm : regionOf a = .eram → t.mbc = { s.mbc with dirty := t.mbc.dirty }) : t.plainCell a = s.plainCell a := by
  unfold State.plainCell
  split
  case h_6 hr => rw [hc, State.eramIndex_congr hc (hm hr)]
  all_goals rfl

end

/-- The addresses are not in ROM space, where a write can move the bank shown in external RAM, or none is in external
RAM. -/
def EramApart (stored : List Word) : Prop :=
  (∀ a ∈ stored, 0x8000 ≤ a.toNat) ∨ ∀ a ∈ stored, regionOf a ≠ .eram

theorem State.StoreFrame.trans {stored : List Word} {s t u : State} (hap : EramApart stored)
    (h : s.StoreFrame stored t) (k : t.StoreFrame stored u) : s.StoreFrame stored u where
  cart := k.cart.trans h.cart
  cells st n hst hc hd := by
    have hcell (a : Word) (ha : a ∈ stored) : t.plainCell a = s.plainCell a :=
      State.plainCell_congr h.cart fun hr => h.mbc (hap.resolve_right fun hne => hne a ha hr)
    exact (k.cells st n hst (fun a ha => hcell a ha ▸ hc a ha) hd).trans (h.cells st n hst hc hd)
  io n hn hc := (k.io n hn hc).trans (h.io n hn hc)
  nr52 hc := (k.nr52 hc).trans (h.nr52 hc)
  ioPage hc := (k.ioPage hc).trans (h.ioPage hc)
  ie hc := (k.ie hc).trans (h.ie hc)
  mbc hc := by rw [k.mbc hc, h.mbc hc]
  dirty hc := (k.dirty hc).trans (h.dirty hc)
  timer hc := (k.timer hc).trans (h.timer hc)
  audio hc := (k.audio hc).trans (h.audio hc)

/-! ### Cells and bank controller -/

section
variable {a : Word} {s : State}

/-- A plain cell is no I/O byte. -/
theorem State.plainCell_ne_io {n : Nat} : s.plainCell a ≠ some (.io, n) := by
  unfold State.plainCell
  split
  case h_6 => split <;> simp
  all_goals simp

theorem storeFrame_setCell {st : Store} {n : Nat} (v : Byte) (hc : s.plainCell a = some (st, n)) :
    s.StoreFrame [a] (s.setCell st n v) := by
  have hio : st ≠ .io := fun he => State.plainCell_ne_io (he ▸ hc)
  have hcell (k : Nat) : (s.setCell st n v).io k = s.io k := s.cell_setCell_other v (.inl hio.symm)
  exact { State.StoreFrame.refl [a] s with
    cells := fun st' n' _ hne _ => s.cell_setCell_other v <| by
      by_contra! he
      obtain ⟨rfl, rfl⟩ := he
      exact hne a (List.mem_singleton_self a) hc
    io := fun k _ _ => hcell k
    nr52 := fun _ => hcell 0x26
    ioPage := fun _ => Stores.get_put_other s.mem _ hio.symm
    ie := fun _ => s.setCell_ie st n v }

theorem storeFrame_writeEram (v : Byte) (hr : regionOf a = .eram) (hb : s.cart.ramSize ≠ 0) :
    s.StoreFrame [a] (s.writeEram a v) := by
  unfold State.writeEram
  split
  · next n hn =>
    have hc : s.plainCell a = some (.eram, n) := by simp [State.plainCell, hr, hb, hn]
    exact { storeFrame_setCell v hc with
      mbc := fun _ => rfl
      dirty := fun hd => absurd hr (hd a (List.mem_singleton_self a)) }
  · exact .refl [a] s

/-- The bank controller's windows leave the dirty flag (20 R94, R97). -/
theorem State.writeRomSpace_dirty (s : State) (a : Word) (v : Byte) :
    (s.writeRomSpace a v).mbc.dirty = s.mbc.dirty := by
  unfold State.writeRomSpace MbcRegs.writeMbc1 MbcRegs.writeIndependent
  split
  · rfl
  · dsimp only; split_ifs <;> rfl
  · dsimp only; split_ifs <;> rfl

theorem storeFrame_writeRomSpace (v : Byte) (ha : a.toNat < 0x8000) : s.StoreFrame [a] (s.writeRomSpace a v) := by
  have hd := s.writeRomSpace_dirty a v
  rw [s.writeRomSpace_eq a v] at hd ⊢
  exact { State.StoreFrame.refl [a] s with
    mbc := fun hc => absurd (hc a (List.mem_singleton_self a)) (by omega)
    dirty := fun _ => hd }

theorem storeFrame_ie (v : Byte) : s.StoreFrame [0xFFFF#16] { s with mem := { s.mem with ie := v } } :=
  { State.StoreFrame.refl [0xFFFF#16] s with
    cells := fun st _ _ _ _ => by cases st <;> rfl
    ie := fun hne => absurd (List.mem_singleton_self _) hne }

end

/-! ### The I/O page -/

/-- A store of an I/O byte stays inside the frame of its address. -/
theorem storeFrame_setIo {a : Word} {n : Nat} (s : State) (v : Byte) (ha : a.toNat = 0xFF00 + n)
    (hr : regionOf a = .io) : s.StoreFrame [a] (s.setIo n v) :=
  { State.StoreFrame.refl [a] s with
    cells := fun st k hst _ _ => s.cell_setIo_other n k v hst
    io := fun k _ hne => s.io_setIo_other v fun hk => hne a (List.mem_singleton_self a) (hk ▸ ha)
    nr52 := fun hne => s.io_setIo_other v <| by
      rintro rfl
      exact hne a (List.mem_singleton_self a) (by rw [show a = 0xFF26#16 from BitVec.eq_of_toNat_eq ha]; decide)
    ioPage := fun hne => absurd hr (hne a (List.mem_singleton_self a)) }

/-- The effect of a write on the audio unit: its own fields, and NR52 by a trigger (20 R78). -/
theorem State.StoreFrame.audioChange {a : Word} {s t u : State} (h : s.StoreFrame [a] t) (hr : regionOf a = .io)
    (hc : t.AudioChange u) (hio : ∀ k, k ≠ 0x26 → u.io k = t.io k)
    (h52 : a ∈ [0xFF14#16, 0xFF19#16, 0xFF26#16] ∨ u.io 0x26 = t.io 0x26)
    (ha : a ∈ [0xFF11#16, 0xFF14#16, 0xFF16#16, 0xFF19#16]) : s.StoreFrame [a] u := by
  have hmem := List.mem_singleton_self a
  obtain ⟨x, io, rfl⟩ := hc
  exact { h with
    cells := fun st n hst hne hd => (h.cells st n hst hne hd).symm ▸ by cases st <;> trivial
    io := fun k hk hne => (hio k hk).trans (h.io k hk hne)
    nr52 := fun hne => (h52.resolve_left (hne a hmem)).trans (h.nr52 hne)
    ioPage := fun hne => absurd hr (hne a hmem)
    audio := fun hne => absurd ha (hne a hmem) }

@[simp] theorem State.io_setChan (s : State) (c : Chan) (ch : Channel) (k : Nat) : (s.setChan c ch).io k = s.io k := by
  cases c <;> rfl

theorem State.io_mirrorEnables (s : State) {k : Nat} (h : k ≠ 0x26) : s.mirrorEnables.io k = s.io k :=
  s.io_setIo_other _ h

theorem State.io_sweepCheck (s : State) {k : Nat} (h : k ≠ 0x26) : s.sweepCheck.io k = s.io k := by
  unfold State.sweepCheck State.disable
  split
  · rw [State.io_mirrorEnables _ h, State.io_setChan]
  · rfl

/-- A trigger writes no I/O byte but NR52 (60 R366, R369). -/
theorem State.io_trigger (s : State) (c : Chan) {k : Nat} (h : k ≠ 0x26) : (s.trigger c).io k = s.io k := by
  have hsweep (t : State) : t.triggerSweep.io k = t.io k := by
    unfold State.triggerSweep
    dsimp only
    split
    · exact State.io_sweepCheck _ h
    · rfl
  cases c
  · rw [State.trigger, State.io_mirrorEnables _ h, hsweep, State.triggerChannel, State.io_setChan]
  · rw [State.trigger, State.io_mirrorEnables _ h, State.triggerChannel, State.io_setChan]

theorem storeFrame_loadLength {a : Word} {s t : State} (c : Chan) (v : Byte) (h : s.StoreFrame [a] t)
    (hr : regionOf a = .io) (ha : a ∈ [0xFF11#16, 0xFF14#16, 0xFF16#16, 0xFF19#16]) :
    s.StoreFrame [a] (t.loadLength c v) :=
  h.audioChange hr (t.audioChange_loadLength c v) (fun k _ => t.io_setChan c _ k) (.inr (t.io_setChan c _ _)) ha

theorem storeFrame_trigger {a : Word} {s t : State} (c : Chan) (h : s.StoreFrame [a] t) (hr : regionOf a = .io)
    (ha : a ∈ [0xFF14#16, 0xFF19#16]) : s.StoreFrame [a] (t.trigger c) := by
  simp only [List.mem_cons, List.not_mem_nil, or_false] at ha
  refine h.audioChange hr (t.audioChange_trigger c) (fun k hk => t.io_trigger c hk) (.inl ?_) ?_ <;>
    rcases ha with rfl | rfl <;> decide

theorem storeFrame_writeIo {a : Word} {n : Nat} (s : State) (v : Byte) (ha : a.toNat = 0xFF00 + n)
    (hr : regionOf a = .io) : s.StoreFrame [a] (s.writeIo n v) := by
  have hset (w : Byte) := storeFrame_setIo s w ha hr
  have haddr (m : Word) (hm : m.toNat = 0xFF00 + n) : a = m := BitVec.eq_of_toNat_eq (ha.trans hm.symm)
  unfold State.writeIo
  split
  · obtain rfl := haddr 0xFF04 rfl
    exact { hset 0 with timer := fun hne => absurd (List.mem_singleton_self _) hne }
  · obtain rfl := haddr 0xFF11 rfl
    exact storeFrame_loadLength .one v (hset v) hr (by decide)
  · obtain rfl := haddr 0xFF14 rfl
    split
    · exact storeFrame_trigger .one (hset v) hr (by decide)
    · exact hset v
  · obtain rfl := haddr 0xFF16 rfl
    exact storeFrame_loadLength .two v (hset v) hr (by decide)
  · obtain rfl := haddr 0xFF19 rfl
    split
    · exact storeFrame_trigger .two (hset v) hr (by decide)
    · exact hset v
  · exact hset _
  · exact hset _
  · exact .refl [a] s
  · exact hset v

/-! ### One write, and one instruction -/

/-- The effect of a region's rule stays inside the frame of the address (20 R63). -/
theorem storeFrame_busStore {a : Word} {s : State} (v : Byte) (hb : s.backed a = true) :
    s.StoreFrame [a] (s.busStore a v) := by
  have hbounds := regionOf_bounds a
  unfold State.busStore
  split <;> rename_i hr <;> simp only [hr, Region.first, Region.bound] at hbounds
  · exact storeFrame_writeRomSpace v (by omega)
  · exact storeFrame_writeRomSpace v (by omega)
  · exact storeFrame_setCell v (by simp [State.plainCell, hr])
  · exact storeFrame_writeEram v hr (by simpa [State.backed, hr] using hb)
  · exact storeFrame_setCell v (by simp [State.plainCell, hr])
  · exact storeFrame_setCell v (by simp [State.plainCell, hr])
  · exact storeFrame_setCell v (by simp [State.plainCell, hr])
  · exact .refl [a] s
  · exact storeFrame_writeIo s v (by omega) hr
  · exact storeFrame_setCell v (by simp [State.plainCell, hr])
  · obtain rfl : a = 0xFFFF := BitVec.eq_of_toNat_eq (by show _ = 0xFFFF; omega)
    exact storeFrame_ie v

theorem State.io_setOam (s : State) (n k : Nat) (v : Byte) : (s.setCell .oam n v).io k = s.io k := rfl

/-- The copy of a write to the DMA register stays inside the frame of that register (20 R80). -/
theorem State.StoreFrame.setOam {s t : State} (h : s.StoreFrame [0xFF46#16] t) (n : Nat) (v : Byte) :
    s.StoreFrame [0xFF46#16] (t.setCell .oam n v) :=
  { h with
    cells := fun st k hst hne hd => by
      have hoam : st ≠ .oam := hd.resolve_left (absurd (List.mem_singleton_self _))
      exact (t.cell_setCell_other v (.inl hoam)).trans (h.cells st k hst hne hd)
    io := fun k hk hne => (t.io_setOam n k v).trans (h.io k hk hne)
    nr52 := fun hne => (t.io_setOam n 0x26 v).trans (h.nr52 hne) }

/-- A write stays inside the frame of its address, whether it goes through or stops. -/
theorem storeFrame_writeByte (a : Word) (v : Byte) (s : State) : (writeByte a v s).Holds (s.StoreFrame [a]) := by
  refine writeByte_holds (.refl [a] s) (fun hb _ => storeFrame_busStore v hb) ?_ ?_ ?_
  · rintro rfl; exact storeFrame_setIo s v rfl (by decide)
  · exact fun _ _ b ht => ht.afterRead b
  · rintro rfl t n w ht; exact ht.setOam n w

theorem storeKept_storeFrame {stored : List Word} (hap : EramApart stored) (s : State) :
    StoreKept stored (s.StoreFrame stored) where
  cpu t c h := h.change c t.draws
  draws t n h := h.change t.cpu n
  write t a v ha h := h.trans hap ((storeFrame_writeByte a v t).mono (by simpa using ha))

/-- Every address of a list is a given one or the next. -/
def Adjacent (stored : List Word) : Prop := ∃ a, ∀ b ∈ stored, b = a ∨ b = a + 1

theorem adjacent_nil : Adjacent [] := ⟨0, by simp⟩
theorem adjacent_singleton (a : Word) : Adjacent [a] := ⟨a, by simp⟩
theorem adjacent_word (a : Word) : Adjacent [a, a + 1] := ⟨a, by simp⟩
theorem adjacent_pushed (s : State) : Adjacent s.pushed := by
  have hsp : s.cpu.sp - 1 = s.cpu.sp - 2 + 1 := by bv_omega
  exact ⟨s.cpu.sp - 2, by rw [State.pushed, hsp]; simp⟩
theorem adjacent_pushedIf (c : Bool) (s : State) : Adjacent (if c then s.pushed else []) := by
  split
  · exact adjacent_pushed s
  · exact adjacent_nil

/-- An instruction stores to one address, or to two that follow each other. -/
theorem adjacent_storedAddresses (i : Instr) (s : State) : Adjacent (storedAddresses i s) := by
  cases i
  case push_BC | push_DE | push_HL | push_AF | call_a16 | rst_00 | rst_08 | rst_10 | rst_18 | rst_20 | rst_28 | rst_30 |
      rst_38 => exact adjacent_pushed s
  case call_NZ_a16 | call_Z_a16 | call_NC_a16 | call_C_a16 => exact adjacent_pushedIf _ s
  case ld_atA16_SP n16 => exact adjacent_word n16
  case ld_atHL_B | ld_atHL_C | ld_atHL_D | ld_atHL_E | ld_atHL_H | ld_atHL_L | ld_atHL_A | ld_atHL_d8 | ld_atHLI_A |
      ld_atHLD_A | inc_atHL | dec_atHL | rlc_atHL | rrc_atHL | rl_atHL | rr_atHL | sla_atHL | sra_atHL | swap_atHL |
      srl_atHL | res_0_atHL | res_1_atHL | res_2_atHL | res_3_atHL | res_4_atHL | res_5_atHL | res_6_atHL | res_7_atHL |
      set_0_atHL | set_1_atHL | set_2_atHL | set_3_atHL | set_4_atHL | set_5_atHL | set_6_atHL | set_7_atHL |
      ld_atBC_A | ld_atDE_A | ld_atA16_A | ldh_atA8_A | ld_atC_A => exact adjacent_singleton _
  all_goals exact adjacent_nil

/-- ROM space and external RAM are not next to each other (20 R61). -/
theorem eramApart_of_adjacent {stored : List Word} (h : Adjacent stored) : EramApart stored := by
  obtain ⟨a, ha⟩ := h
  by_cases hrom : ∀ b ∈ stored, 0x8000 ≤ b.toNat
  · exact .inl hrom
  · push Not at hrom
    obtain ⟨b, hb, hlow⟩ := hrom
    refine .inr fun c hc hr => ?_
    obtain ⟨h1, h2⟩ := regionOf_bounds c
    simp only [hr, Region.first, Region.bound] at h1 h2
    rcases ha b hb with rfl | rfl <;> rcases ha c hc with rfl | rfl <;> bv_omega

/-- An instruction stays inside the frame of the addresses it stores to. -/
theorem exec_storeFrame {i : Instr} {s t : State} (h : exec i s = .next t) : s.StoreFrame (storedAddresses i s) t :=
  instrStores i _ s t (storeKept_storeFrame (eramApart_of_adjacent (adjacent_storedAddresses i s)) s) (.refl _ s) h

/-- Settles O26: writes leave the CPU, and instructions stay inside the frame of their stores (`exec_storeFrame`). -/
theorem storingFrame : Obligations.StoringFrame := by
  refine ⟨fun a v s u => ⟨writeByte_ok_cpu, fun _ => writeByte_stop_cpu⟩, fun i s t h => ?_⟩
  obtain ⟨-, hcells, hio, hnr52, -, hie, hmbc, hdirty, htimer, haudio⟩ := exec_storeFrame h
  exact ⟨hcells, hio, hnr52, hie, hmbc, hdirty, htimer, haudio⟩

/-! ### Stores into plain storage, by address (20 R62, R67 to R72) -/

section
variable {s t : State}

/-- Without external RAM no address names a cell of it (20 R92). -/
theorem State.plainCell_ne_eram {a : Word} (h : s.cart.ramSize = 0) (n : Nat) : s.plainCell a ≠ some (.eram, n) := by
  unfold State.plainCell
  split
  case h_6 => simp [h]
  all_goals simp

/-- Plain storage is not in ROM space. -/
theorem State.plainCell_romSpace {a : Word} (h : a.toNat < 0x8000) : s.plainCell a = none := by
  rcases Nat.lt_or_ge a.toNat 0x4000 with hl | hl
  · simp [State.plainCell, regionOf_eq .romFixed (Nat.zero_le _) hl]
  · simp [State.plainCell, regionOf_eq .romSwitched hl h]

section
variable {stored : List Word} (h : s.StoreFrame stored t) (hplain : ∀ a ∈ stored, (s.plainCell a).isSome = true)

include hplain in
theorem not_mem_of_plain {a : Word} (hn : s.plainCell a = none) : a ∉ stored := fun ha => by
  simpa [hn] using hplain a ha

include hplain in
theorem not_mem_of_plain_io {a : Word} (hr : regionOf a = .io) : a ∉ stored :=
  not_mem_of_plain hplain (by simp [State.plainCell, hr])

include h hplain

/-- Stores into plain storage leave the devices, the I/O page, `IE` and the bank controller but its dirty flag. -/
theorem State.StoreFrame.plain : t.timer = s.timer ∧ t.audio = s.audio ∧ t.mem.io = s.mem.io ∧
    t.mem.ie = s.mem.ie ∧ t.mbc = { s.mbc with dirty := t.mbc.dirty } := by
  have haudio (a : Word) (hm : a ∈ [0xFF11#16, 0xFF14#16, 0xFF16#16, 0xFF19#16]) : regionOf a = .io := by
    simp only [List.mem_cons, List.not_mem_nil, or_false] at hm
    rcases hm with rfl | rfl | rfl | rfl <;> decide
  have hie : s.plainCell 0xFFFF#16 = none := rfl
  exact ⟨h.timer (not_mem_of_plain_io hplain (by decide)),
    h.audio fun a ha hm => not_mem_of_plain_io hplain (haudio a hm) ha,
    h.ioPage fun a ha hr => not_mem_of_plain_io hplain hr ha,
    h.ie (not_mem_of_plain hplain hie),
    h.mbc fun a ha => Nat.le_of_not_lt fun hl => not_mem_of_plain hplain (State.plainCell_romSpace hl) ha⟩

/-- A store into plain storage leaves what is read at an address that names another cell, or none. -/
theorem State.StoreFrame.busValue (hfix : s.SameFixedParts t) {b : Word} (hb : regionOf b ≠ .unusable)
    (hother : ∀ a ∈ stored, s.plainCell b ≠ s.plainCell a) : t.busValue b = s.busValue b := by
  obtain ⟨-, -, hpage, hie, hmbc⟩ := h.plain hplain
  have hdma : 0xFF46#16 ∉ stored := not_mem_of_plain_io hplain (by decide)
  have hrom (n : Nat) : t.cell .rom n = s.cell .rom n := State.cell_congr (st := .rom) hfix.rom hfix.boots n
  have hio (n : Nat) : t.io n = s.io n := State.cell_congr (st := .io) hpage hfix.boots n
  have hnamed {st : Store} {n : Nat} (hst : st ≠ .io) (hc : s.plainCell b = some (st, n)) :
      t.cell st n = s.cell st n :=
    h.cells st n hst (fun a ha he => hother a ha (hc.trans he.symm)) (.inl hdma)
  unfold State.busValue
  split <;> rename_i hr
  · exact hrom _
  · rw [State.effectiveBank_congr hfix.cart hmbc, hrom]
  · exact hnamed (by decide) (by simp [State.plainCell, hr])
  · unfold State.readEram
    rw [State.eramIndex_congr hfix.cart hmbc]
    split
    · next n hn =>
      by_cases h0 : s.cart.ramSize = 0
      · exact h.cells .eram n (by decide) (fun a _ => State.plainCell_ne_eram h0 n) (.inl hdma)
      · exact hnamed (by decide) (by simp [State.plainCell, hr, h0, hn])
    · rfl
  · exact hnamed (by decide) (by simp [State.plainCell, hr])
  · exact hnamed (by decide) (by simp [State.plainCell, hr])
  · exact hnamed (by decide) (by simp [State.plainCell, hr])
  · exact absurd hr hb
  · dsimp only
    rw [hio, hio, hfix.buttons]
  · exact hnamed (by decide) (by simp [State.plainCell, hr])
  · exact hie

end
end

/-- Settles O27: stores into plain storage are outside every other part of the frame (`exec_storeFrame`). -/
theorem storingFrameByAddress : Obligations.StoringFrameByAddress := fun _ _ _ hn hplain =>
  ⟨fun _ hb hother => (exec_storeFrame hn).busValue hplain (exec_sameFixedParts hn) hb hother,
    (exec_storeFrame hn).plain hplain⟩

end Sys2Proof.Machine
end

section
/-! The encoder writes back the bytes the decoder has read: the rows of 30 R130 and R131 by their fields, and the eleven
opcodes without a handler (30 R132). -/
namespace Sys2Proof

/-! ### Opcode fields (30 R123) -/

/-- The opcode byte with the fields `x`, `y`, `z`. -/
def opOfFields (x y z : Nat) : Byte := BitVec.ofNat 8 (64 * x + 8 * y + z)

theorem opOfFields_fields (op : Byte) : opOfFields (fieldX op) (fieldY op) (fieldZ op) = op := by
  have hsum : 64 * fieldX op + 8 * fieldY op + fieldZ op = op.toNat := by
    unfold fieldX fieldY fieldZ; omega
  rw [opOfFields, hsum, BitVec.ofNat_toNat, BitVec.setWidth_eq]

theorem fieldX_lt (op : Byte) : fieldX op < 4 := by unfold fieldX; omega
theorem fieldY_lt (op : Byte) : fieldY op < 8 := Nat.mod_lt _ (by decide)
theorem fieldZ_lt (op : Byte) : fieldZ op < 8 := Nat.mod_lt _ (by decide)

/-! ### The encoding of a decoded row -/

/-- The bytes of a row with an opcode byte and operands, as many as its length says (30 R122). -/
def rowBytes (op n8 : Byte) (n16 : Word) : Nat → List Byte
  | 1 => [op]
  | 2 => [op, n8]
  | _ => [op, loByte n16, hiByte n16]

/-- The operand word is the two bytes after the opcode, low byte first (30 R128). -/
theorem rowBytes_wordOf (op b1 b2 : Byte) {n : Nat} (hpos : 1 ≤ n) (hle : n ≤ 3) :
    rowBytes op b1 (wordOf b2 b1) n = [op, b1, b2].take n := by
  interval_cases n <;> simp [rowBytes]

/-- Every second opcode byte is a row of 30 R131. -/
theorem encode_decodeCb (op2 : Byte) : encode (decodeCb op2) = [0xCB, op2] := by
  revert op2; decide

section
variable {y z : Nat} (hy : y < 8) (hz : z < 8)
include hy hz

theorem encode_decodeX0 (n8 : Byte) (n16 : Word) :
    encode (decodeX0 y z n8 n16) = rowBytes (opOfFields 0 y z) n8 n16 (lengthX0 y z) := by
  interval_cases z <;> interval_cases y <;> rfl

theorem encode_decodeX1 : encode (decodeX1 y z) = [opOfFields 1 y z] := by
  interval_cases z <;> interval_cases y <;> rfl

theorem encode_decodeX2 : encode (decodeX2 y z) = [opOfFields 2 y z] := by
  interval_cases z <;> interval_cases y <;> rfl

/-- The byte 0xCB (`y = 1`, `z = 3`) is the one opcode whose next byte chooses the instruction. -/
theorem encode_decodeX3 (n8 : Byte) (n16 : Word) :
    encode (decodeX3 y z n8 n16) = rowBytes (opOfFields 3 y z) n8 n16 (lengthX3 y z) := by
  interval_cases z <;> interval_cases y
  any_goals rfl
  exact encode_decodeCb n8

end

/-- 30 R120: an instruction is one to three bytes long. -/
theorem opLength_bounds (op : Byte) : 1 ≤ opLength op ∧ opLength op ≤ 3 := by
  revert op; decide

/-- The instruction of an opcode byte and two bytes after it is encoded by as many of them as its length says. -/
theorem encode_decodeOp (op b1 b2 : Byte) :
    encode (decodeOp op b1 b2) = [op, b1, b2].take (opLength op) := by
  obtain ⟨hpos, hle⟩ := opLength_bounds op
  have hx := fieldX_lt op
  have hop := opOfFields_fields op
  rw [← rowBytes_wordOf op b1 b2 hpos hle]
  interval_cases h : fieldX op <;> simp only [decodeOp, opLength, h]
  · rw [encode_decodeX0 (fieldY_lt op) (fieldZ_lt op), hop]
  · rw [encode_decodeX1 (fieldY_lt op) (fieldZ_lt op), hop, rowBytes]
  · rw [encode_decodeX2 (fieldY_lt op) (fieldZ_lt op), hop, rowBytes]
  · rw [encode_decodeX3 (fieldY_lt op) (fieldZ_lt op), hop]

theorem length_encode_decodeOp (op b1 b2 : Byte) : (encode (decodeOp op b1 b2)).length = opLength op := by
  rw [encode_decodeOp, List.length_take]
  exact min_eq_left (opLength_bounds op).2

/-! ### The opcodes without a handler (30 R132) -/

/-- The eleven opcodes without a handler, in the order of 30 R132. -/
def IllegalOp.all : List IllegalOp := [.xD3, .xDB, .xDD, .xE3, .xE4, .xEB, .xEC, .xED, .xF4, .xFC, .xFD]

@[simp] theorem IllegalOp.mem_all (o : IllegalOp) : o ∈ IllegalOp.all := by
  cases o <;> decide

theorem Instr.withoutHandler_eq : Instr.withoutHandler = IllegalOp.all.map Instr.illegal := rfl

theorem Instr.wellFormed_eq_false_iff {i : Instr} : i.wellFormed = false ↔ ∃ o, i = .illegal o := by
  simp [Instr.wellFormed, Instr.withoutHandler_eq, eq_comm (a := i)]

theorem mem_illegalOpcodes_iff {op : Byte} :
    op ∈ [0xD3#8, 0xDB#8, 0xDD#8, 0xE3#8, 0xE4#8, 0xEB#8, 0xEC#8, 0xED#8, 0xF4#8, 0xFC#8, 0xFD#8] ↔
      ∃ o : IllegalOp, op = o.byte := by
  change op ∈ IllegalOp.all.map IllegalOp.byte ↔ _
  simp [eq_comm (a := op)]

theorem decodeOp_illegalByte (o : IllegalOp) (b1 b2 : Byte) : decodeOp o.byte b1 b2 = .illegal o := by
  cases o <;> rfl

theorem encode_illegal (o : IllegalOp) : encode (.illegal o) = [o.byte] := by
  cases o <;> rfl

/-- The opcode is read back from the encoding: an illegal instruction is decoded from its own opcode only. -/
theorem decodeOp_eq_illegal_iff {op b1 b2 : Byte} {o : IllegalOp} :
    decodeOp op b1 b2 = .illegal o ↔ op = o.byte := by
  constructor
  · intro h
    obtain ⟨n, hn⟩ : ∃ n, opLength op = n + 1 := Nat.exists_eq_add_of_le' (opLength_bounds op).1
    have henc := encode_decodeOp op b1 b2
    rw [h, encode_illegal, hn, List.take_succ_cons] at henc
    exact (List.cons.inj henc).1.symm
  · rintro rfl
    exact decodeOp_illegalByte o b1 b2

theorem decode_of_three_bytes (op b1 b2 : Byte) (tail : List Byte) :
    decode (op :: b1 :: b2 :: tail) =
      .instr (decodeOp op b1 b2) ((op :: b1 :: b2 :: tail).drop (opLength op)) := by
  have hle := (opLength_bounds op).2
  have hlong : ¬ (op :: b1 :: b2 :: tail).length < opLength op := by
    simp only [List.length_cons]; omega
  exact if_neg hlong

/-- Settles O4: the length is the opcode's (`length_encode_decodeOp`), and an illegal instruction is decoded from its
own opcode only (`decodeOp_eq_illegal_iff`). -/
theorem decodingIsTotal : Obligations.DecodingIsTotal := by
  intro op b1 b2 tail
  obtain ⟨hpos, hle⟩ := opLength_bounds op
  refine ⟨decodeOp op b1 b2, _, decode_of_three_bytes op b1 b2 tail, ?_, ?_, ?_⟩
  · rwa [length_encode_decodeOp]
  · rwa [length_encode_decodeOp]
  · simp only [Instr.wellFormed_eq_false_iff, decodeOp_eq_illegal_iff, mem_illegalOpcodes_iff]

/-- Settles O1: each word by evaluation of the decoder. -/
theorem decodedWords : Obligations.DecodedWords :=
  ⟨rfl, rfl, rfl, rfl, rfl, rfl, rfl, rfl, rfl⟩

end Sys2Proof
end

section
/-! The loads and stores: what a handler that only changes the CPU, reads one byte, or writes one byte makes of its
instruction (30 R121), and the statements about the loads (40 R150 to R169, 41 R180 to R182). -/
namespace Sys2Proof.Machine

/-! ### Changes of the CPU that leave `PC` and the ticks to the frame of the instruction -/

/-- A change of the CPU that does not read `PC`, and leaves `PC` and the ticks alone: it may be made before or after the
instruction's own advance of both. -/
def ApartFromPc (f : Cpu → Cpu) : Prop :=
  ∀ c pc ticks, (f (c.setPc pc)).addTicks ticks = { f c with pc := pc, ticks := c.ticks + ticks }

theorem apartFromPc_setReg (dst : R8) {v : Cpu → Byte} (hv : ∀ c pc, v (c.setPc pc) = v c) :
    ApartFromPc fun c => c.setReg dst (v c) := by
  intro c pc ticks
  simp only [hv]
  cases dst <;> rfl

theorem apartFromPc_setRp (p : Rp) (v : Word) : ApartFromPc fun c => c.setRp p v := by
  intro c pc ticks
  cases p <;> rfl

theorem runOp_cpuOnly_afterCpu {f : Cpu → Cpu} (hf : ApartFromPc f) (len ticks : Nat) (s : State) :
    runOp len ticks (cpuOnly f) s = .next (s.afterCpu len ticks f) := by
  simp only [runOp_cpuOnly, hf _ _ ticks]
  rfl

/-- Settles O7: each change is apart from `PC` and the ticks (`runOp_cpuOnly_afterCpu`). -/
theorem registerLoads : Obligations.RegisterLoads := by
  refine ⟨fun dst r s => ?_, fun dst n8 s => ?_, fun p n16 s => ?_, fun s => rfl⟩
  · rw [exec_ldRR]
    exact runOp_cpuOnly_afterCpu (apartFromPc_setReg dst fun c pc => c.reg_setPc pc r) 1 4 s
  · rw [exec_ldRImm]
    exact runOp_cpuOnly_afterCpu (apartFromPc_setReg dst fun _ _ => rfl) 2 8 s
  · rw [exec_ldRpImm]
    exact runOp_cpuOnly_afterCpu (apartFromPc_setRp p n16) 3 12 s

/-! ### One read -/

/-- Read a byte and change the CPU with it. -/
def readInto (a : Word) (f : Byte → Cpu → Cpu) (s : State) : Access Unit :=
  (readByte a s).andThen fun v u => .ok () (u.onCpu (f v))

theorem loadA_eq_readInto (a : Word) (s : State) : loadA a s = readInto a (fun v c => { c with a := v }) s := rfl

theorem withHl_eq_readInto (f : Byte → Cpu → Cpu) (s : State) : withHl f s = readInto s.cpu.hl f s := rfl

theorem thenMoveHl_readInto (delta a : Word) (f : Byte → Cpu → Cpu) (s : State) :
    thenMoveHl delta (readInto a f s) = readInto a (fun v c => (f v c).setHl ((f v c).hl + delta)) s := by
  unfold thenMoveHl readInto
  cases readByte a s <;> rfl

theorem readInto_backed {a : Word} {s : State} (f : Byte → Cpu → Cpu) (h : s.backed a = true) :
    readInto a f s = .ok () ((s.afterRead a).onCpu (f (s.busValue a))) := by
  unfold readInto
  rw [readByte_backed h, Access.andThen_ok]

theorem readInto_unbacked {a : Word} {s : State} (f : Byte → Cpu → Cpu) (h : s.backed a = false) :
    readInto a f s = .stop (.invalidBankDispatch a) s := by
  unfold readInto
  rw [readByte_unbacked h, Access.andThen_stop]

/-- The answer of an instruction that reads one byte and changes the CPU with it: completed where the address is
backed, stopped with `PC` past it where it is not (20 R62, R101). -/
def LoadsByte (x : Answer) (s : State) (a : Word) (len ticks : Nat) (f : Byte → Cpu → Cpu) : Prop :=
  (s.backed a = true → x = .next ((s.afterRead a).afterCpu len ticks (f (s.busValue a)))) ∧
  (s.backed a = false → x = .next ((s.advanced len).raise (.invalidBankDispatch a)))

theorem runOp_readInto {len ticks : Nat} {handler : State → Access Unit} {s : State} {a : Word} {f : Byte → Cpu → Cpu}
    (hf : ∀ v, ApartFromPc (f v)) (hh : handler (s.advanced len) = readInto a f (s.advanced len)) :
    LoadsByte (runOp len ticks handler s) s a len ticks f := by
  constructor
  · intro hb
    have hread : readInto a f (s.advanced len) = .ok () (((s.afterRead a).advanced len).onCpu (f (s.busValue a))) := by
      refine (readInto_backed (s := s.advanced len) f hb).trans ?_
      rw [State.advanced, State.afterRead_onCpu]
      rfl
    rw [runOp_ok (hh.trans hread), ← runOp_cpuOnly_afterCpu (hf _)]
    rfl
  · intro hb
    exact runOp_stop (hh.trans (readInto_unbacked f hb))

theorem runOp_loadA {len ticks : Nat} {handler : State → Access Unit} {s : State} {a : Word}
    (hh : handler (s.advanced len) = loadA a (s.advanced len)) :
    LoadsByte (runOp len ticks handler s) s a len ticks fun v c => { c with a := v } :=
  runOp_readInto (fun _ _ _ _ => rfl) (hh.trans (loadA_eq_readInto a _))

/-- Settles O8: every load is one read into the CPU (`runOp_readInto`, `runOp_loadA`); the moving forms are one read
too (`thenMoveHl_readInto`). -/
theorem loadsFromMemory : Obligations.LoadsFromMemory := by
  intro s
  have toReg (dst : R8) : LoadsByte (exec (.ldRHl dst) s) s s.cpu.hl 1 8 fun v c => c.setReg dst v := by
    rw [exec_ldRHl]
    exact runOp_readInto (fun v => apartFromPc_setReg dst fun _ _ => rfl) (withHl_eq_readInto _ _)
  have moving (delta : Word) : LoadsByte (runOp 1 8 (fun s => thenMoveHl delta (loadA s.cpu.hl s)) s) s s.cpu.hl 1 8
      fun v c => { c.setHl (c.hl + delta) with a := v } :=
    runOp_readInto (fun _ _ _ _ => rfl) (thenMoveHl_readInto delta s.cpu.hl _ (s.advanced 1))
  have movingDown : LoadsByte (exec .ld_A_atHLD s) s s.cpu.hl 1 8 fun v c => { c.setHl (c.hl - 1) with a := v } := by
    simp only [BitVec.sub_eq_add_neg]
    exact moving (-1)
  exact ⟨toReg, runOp_loadA rfl, runOp_loadA rfl, fun _ => runOp_loadA rfl, fun _ => runOp_loadA rfl,
    runOp_loadA rfl, moving 1, movingDown⟩

/-! ### One write -/

theorem Cpu.setHl_hl_add_zero (c : Cpu) : c.setHl (c.hl + 0) = c := by
  simp [Cpu.setHl, Cpu.hl]

theorem thenMoveHl_zero (x : Access Unit) : thenMoveHl 0 x = x := by
  unfold thenMoveHl
  cases x <;> simp only [Access.andThen_ok, Access.andThen_stop, Cpu.setHl_hl_add_zero, State.onCpu_id]

/-- Whether a store goes through depends on the configuration and the cartridge only. -/
theorem State.storeReady_congr {s t : State} (hcfg : t.cfg = s.cfg) (hcart : t.cart = s.cart) (a : Word) (v : Byte) :
    t.storeReady a v = s.storeReady a v := by
  simp only [State.storeReady, State.dmaReady, State.backed, hcfg, hcart]

theorem writeDma_of_dmaReady {v : Byte} {s : State} (h : s.dmaReady v = true) : ∃ u, writeDma v s = .ok () u :=
  dmaCopy_backed fun k _ hk => List.all_eq_true.mp h k (List.mem_range.mpr (by simpa using hk))

theorem writeByte_of_storeReady {a : Word} {v : Byte} {s : State} (h : s.storeReady a v = true) :
    ∃ u, writeByte a v s = .ok () u := by
  obtain ⟨hb, hd⟩ := Bool.and_eq_true_iff.mp h
  by_cases ha : a = 0xFF46
  · obtain ⟨u, hu⟩ := writeDma_of_dmaReady (v := v) (s := s) (by simpa [ha] using hd)
    exact ⟨u, by rw [ha, writeByte_dma, hu]⟩
  · exact ⟨_, writeByte_backed hb ha⟩

theorem State.storeReady_after_write {a b : Word} {v w : Byte} {s u : State} (h : writeByte a v s = .ok () u) :
    u.storeReady b w = s.storeReady b w := by
  have hu : s.SameFixedParts (writeByte a v s).state := (kept_sameFixedParts s).writeByte a v (.refl s)
  rw [h] at hu
  exact State.storeReady_congr hu.cfg hu.cart b w

/-- The answer of an instruction that writes one byte and then moves `HL`: completed where the store is ready to go
through, stopped where the write stops. -/
def StoresByte (x : Answer) (s : State) (a : Word) (v : Byte) (len ticks : Nat) (move : Word) : Prop :=
  (s.storeReady a v = true → ∃ u, writeByte a v (s.advanced len) = .ok () u ∧
    x = .next (u.onCpu fun c => { c.setHl (c.hl + move) with ticks := c.ticks + ticks })) ∧
  (∀ info u, writeByte a v (s.advanced len) = .stop info u → x = .next (u.raise info))

theorem runOp_writeMoving {len ticks : Nat} {handler : State → Access Unit} {s : State} {a : Word} {v : Byte}
    {move : Word} (hh : handler (s.advanced len) = thenMoveHl move (writeByte a v (s.advanced len))) :
    StoresByte (runOp len ticks handler s) s a v len ticks move := by
  constructor
  · intro hr
    obtain ⟨u, hu⟩ := writeByte_of_storeReady (s := s.advanced len) hr
    exact ⟨u, hu, runOp_ok (hh.trans (by rw [hu]; rfl))⟩
  · intro info u hu
    exact runOp_stop (hh.trans (by rw [hu]; rfl))

theorem runOp_write {len ticks : Nat} {handler : State → Access Unit} {s : State} {a : Word} {v : Byte}
    (hh : handler (s.advanced len) = writeByte a v (s.advanced len)) :
    StoresByte (runOp len ticks handler s) s a v len ticks 0 :=
  runOp_writeMoving (hh.trans (thenMoveHl_zero _).symm)

theorem writeWord_of_ok {a v : Word} {s u : State} (h : writeByte a (loByte v) s = .ok () u) :
    writeWord a v s = writeByte (a + 1) (hiByte v) u := by
  unfold writeWord
  rw [h, Access.andThen_ok]

theorem writeWord_of_stop {a v : Word} {s u : State} {info : Fault} (h : writeByte a (loByte v) s = .stop info u) :
    writeWord a v s = .stop info u := by
  unfold writeWord
  rw [h, Access.andThen_stop]

/-- Settles O9: every store of a byte is one write (`runOp_write`, `runOp_writeMoving`); the store of `SP` is two
(`writeWord_of_ok`, `writeWord_of_stop`), and the first leaves the second as ready as it was
(`State.storeReady_after_write`). -/
theorem stores : Obligations.Stores := by
  intro s
  have fromReg (r : R8) : StoresByte (exec (.ldHlR r) s) s s.cpu.hl (s.cpu.reg r) 1 8 0 := by
    rw [exec_ldHlR]
    exact runOp_write (congrArg (writeByte s.cpu.hl · (s.advanced 1)) (s.cpu.reg_setPc _ r))
  have moving (move : Word) :
      StoresByte (runOp 1 8 (fun s => thenMoveHl move (storeA s.cpu.hl s)) s) s s.cpu.hl s.cpu.a 1 8 move :=
    runOp_writeMoving rfl
  refine ⟨fromReg, fun _ => runOp_write rfl, runOp_write rfl, runOp_write rfl, fun _ => runOp_write rfl,
    fun _ => runOp_write rfl, runOp_write rfl, moving 1, moving 0xFFFF, ?_, ?_⟩
  · intro n16 hlo
    obtain ⟨u, hu⟩ := writeByte_of_storeReady (s := s.advanced 3) hlo
    have hsecond := writeWord_of_ok hu
    refine ⟨u, hu, fun hhi => ?_, fun info v hv => runOp_stop (hsecond.trans hv)⟩
    obtain ⟨v, hv⟩ := writeByte_of_storeReady ((State.storeReady_after_write hu).trans hhi)
    exact ⟨v, hv, runOp_ok (hsecond.trans hv)⟩
  · intro n16 info u hu
    exact runOp_stop (writeWord_of_stop hu)

end Sys2Proof.Machine
end

section
/-! The stack: the two accesses of a push and of a pop, where each may stop, and what a pop finds after a push over
plain storage (41 R184 to R186, 00 R10, 20 R82). -/
namespace Sys2Proof.Machine

/-! ### Pushes (41 R184) -/

/-- A push whose first write goes through goes on with the low byte, two below (00 R10). -/
theorem push16_of_ok {v : Word} {s u : State}
    (h : writeByte (s.cpu.sp - 1) (hiByte v) (s.onCpu fun c => c.setSp (c.sp - 1)) = .ok () u) :
    push16 v s = writeByte (s.cpu.sp - 2) (loByte v) (u.onCpu fun c => c.setSp (s.cpu.sp - 2)) := by
  have hsp : u.cpu.sp - 1 = s.cpu.sp - 2 := by
    rw [writeByte_ok_cpu h, State.onCpu_cpu, Cpu.setSp_sp]; bv_omega
  have hcpu : (u.onCpu fun c => c.setSp (c.sp - 1)) = u.onCpu fun c => c.setSp (s.cpu.sp - 2) :=
    congrArg (fun sp => u.onCpu fun c => c.setSp sp) hsp
  rw [push16_eq, h, Access.andThen_ok, hsp, hcpu]

theorem push16_of_stop {v : Word} {s u : State} {info : Fault}
    (h : writeByte (s.cpu.sp - 1) (hiByte v) (s.onCpu fun c => c.setSp (c.sp - 1)) = .stop info u) :
    push16 v s = .stop info u := by
  rw [push16_eq, h, Access.andThen_stop]

theorem Cpu.rp2_setPc (c : Cpu) (v : Word) (p : Rp2) : (c.setPc v).rp2 p = c.rp2 p := by cases p <;> rfl

/-- A push that goes through costs 16 ticks. -/
theorem exec_pushRp2_ok {p : Rp2} {s u : State} (h : push16 (s.cpu.rp2 p) (s.advanced 1) = .ok () u) :
    exec (.pushRp2 p) s = .next (u.onCpu fun c => c.addTicks 16) := by
  rw [exec_pushRp2]
  exact runOp_ok ((congrArg (push16 · (s.advanced 1)) (s.cpu.rp2_setPc _ p)).trans h)

theorem exec_pushRp2_stop {p : Rp2} {s u : State} {info : Fault}
    (h : push16 (s.cpu.rp2 p) (s.advanced 1) = .stop info u) : exec (.pushRp2 p) s = .next (u.raise info) := by
  rw [exec_pushRp2]
  exact runOp_stop ((congrArg (push16 · (s.advanced 1)) (s.cpu.rp2_setPc _ p)).trans h)

/-! ### Pops (41 R185, R186) -/

/-- A pop whose low byte is unbacked stops before it changes anything (20 R101). -/
theorem pop16_unbacked_low {s : State} (h : s.backed s.cpu.sp = false) :
    pop16 s = .stop (.invalidBankDispatch s.cpu.sp) s := by
  unfold pop16
  rw [readByte_unbacked h, Access.andThen_stop]

/-- A pop whose high byte is unbacked stops with `SP` one up (00 R10, 20 R101). -/
theorem pop16_unbacked_high {s : State} (h0 : s.backed s.cpu.sp = true) (h1 : s.backed (s.cpu.sp + 1) = false) :
    pop16 s = .stop (.invalidBankDispatch (s.cpu.sp + 1))
      ((s.afterRead s.cpu.sp).onCpu fun c => c.setSp (c.sp + 1)) := by
  unfold pop16
  rw [readByte_backed h0]
  simp only [Access.andThen_ok, State.onCpu_cpu, State.afterRead_cpu, Cpu.setSp_sp]
  rw [readByte_unbacked (by simpa using h1), Access.andThen_stop]

theorem exec_popRp2_stop {p : Rp2} {s u : State} {info : Fault} (h : pop16 (s.advanced 1) = .stop info u) :
    exec (.popRp2 p) s = .next (u.raise info) := by
  rw [exec_popRp2]
  exact runOp_stop (congrArg (Access.andThen · _) h)

/-- The CPU after a pop of the bytes `hi` and `lo` into a pair: into `AF` without the low nibble of the flags. -/
def Cpu.popped (c : Cpu) (p : Rp2) (hi lo : Byte) : Cpu :=
  match p with
  | .bc => { c with b := hi, c := lo, sp := c.sp + 2 }
  | .de => { c with d := hi, e := lo, sp := c.sp + 2 }
  | .hl => { c with h := hi, l := lo, sp := c.sp + 2 }
  | .af => { c with a := hi, f := lo &&& 0xF0, sp := c.sp + 2 }

theorem Cpu.setRp2_setSp (c : Cpu) (p : Rp2) (hi lo : Byte) :
    (c.setSp (c.sp + 2)).setRp2 p (wordOf hi lo) = c.popped p hi lo := by
  cases p <;> simp [Cpu.setRp2, Cpu.popped, Cpu.setHl, Cpu.setSp]

theorem Cpu.popped_sp (c : Cpu) (p : Rp2) (hi lo : Byte) : (c.popped p hi lo).sp = c.sp + 2 := by cases p <;> rfl

theorem apartFromPc_popped (p : Rp2) (hi lo : Byte) : ApartFromPc fun c => c.popped p hi lo := by
  intro c pc ticks
  cases p <;> rfl

/-- A pop whose two bytes are backed: the low byte from `SP`, the high byte from above it. -/
theorem exec_popRp2_backed {s : State} (p : Rp2) (h0 : s.backed s.cpu.sp = true)
    (h1 : s.backed (s.cpu.sp + 1) = true) :
    exec (.popRp2 p) s = .next (((s.afterRead s.cpu.sp).afterRead (s.cpu.sp + 1)).afterCpu 1 12 fun c =>
      c.popped p ((s.afterRead s.cpu.sp).busValue (s.cpu.sp + 1)) (s.busValue s.cpu.sp)) := by
  have hpop := pop16_backed (s := s.advanced 1) h0 h1
  simp only [State.advanced, State.onCpu_cpu, Cpu.setPc_sp, State.afterRead_onCpu, State.busValue_onCpu] at hpop
  rw [exec_popRp2, ← runOp_cpuOnly_afterCpu (apartFromPc_popped p _ _)]
  unfold popPair runOp
  simp only [hpop, Access.andThen_ok, State.onCpu_onCpu, cpuOnly, ← Cpu.setRp2_setSp]

/-- Settles O10: a push is two writes (`push16_of_ok`, `push16_of_stop`), the first of which leaves the second as ready
as it was (`State.storeReady_after_write`); a pop is two reads into the pair (`exec_popRp2_backed`). -/
theorem pushesAndPops : Obligations.PushesAndPops := by
  refine ⟨fun s p => ⟨fun hhi hlo => ?_, fun info u hfirst => ?_, fun u info v hfirst hsecond => ?_⟩,
    fun s h0 h1 => ?_, fun s p => ⟨fun h0 => ?_, fun h0 h1 => ?_⟩⟩
  · obtain ⟨u, hu⟩ := writeByte_of_storeReady
      (s := (s.advanced 1).onCpu fun c => { c with sp := s.cpu.sp - 1 }) hhi
    obtain ⟨v, hv⟩ := writeByte_of_storeReady (s := u.onCpu fun c => { c with sp := s.cpu.sp - 2 })
      ((State.storeReady_after_write hu).trans hlo)
    exact ⟨u, v, hu, hv, exec_pushRp2_ok ((push16_of_ok (s := s.advanced 1) hu).trans hv)⟩
  · exact exec_pushRp2_stop (push16_of_stop (s := s.advanced 1) hfirst)
  · exact exec_pushRp2_stop ((push16_of_ok (s := s.advanced 1) hfirst).trans hsecond)
  · exact ⟨exec_popRp2_backed .bc h0 h1, exec_popRp2_backed .de h0 h1, exec_popRp2_backed .hl h0 h1,
      exec_popRp2_backed .af h0 h1⟩
  · exact exec_popRp2_stop (pop16_unbacked_low (s := s.advanced 1) h0)
  · rw [exec_popRp2_stop (pop16_unbacked_high (s := s.advanced 1) h0 h1), State.advanced, State.onCpu_cpu,
      Cpu.setPc_sp]
    rfl

/-! ### Plain storage (20 R62, R67 to R70, R96) -/

section
variable {a : Word} {s : State}

/-- A plain address of external RAM names the byte it reaches (20 R68, R92, R96). -/
theorem State.plainCell_eram_iff {st : Store} {n : Nat} (hr : regionOf a = .eram) :
    s.plainCell a = some (st, n) ↔ s.cart.ramSize ≠ 0 ∧ st = .eram ∧ s.eramIndex a = some n := by
  simp only [State.plainCell, hr]
  split <;> simp_all [and_comm, eq_comm]

/-- A plain address is backed, and lies neither in the unusable region nor in the I/O page. -/
theorem State.plainCell_region (h : (s.plainCell a).isSome = true) :
    s.backed a = true ∧ regionOf a ≠ .unusable ∧ regionOf a ≠ .io := by
  obtain ⟨⟨st, n⟩, hn⟩ := Option.isSome_iff_exists.mp h
  cases hr : regionOf a
  case eram => simp [State.backed, hr, ((State.plainCell_eram_iff hr).mp hn).1]
  case unusable | io => simp [State.plainCell, hr] at hn
  all_goals simp [State.backed, hr]

theorem State.afterRead_of_region (h : regionOf a ≠ .unusable) : s.afterRead a = s := by
  unfold State.afterRead
  split <;> trivial

/-- Which addresses are backed depends on the cartridge only. -/
theorem State.backed_congr {t : State} (hc : t.cart = s.cart) (a : Word) : t.backed a = s.backed a := by
  unfold State.backed
  rw [hc]

theorem State.readEram_of_index {n : Nat} (h : s.eramIndex a = some n) : s.readEram a = s.cell .eram n := by
  simp [State.readEram, h]

/-- A byte stored at a plain address is read back there. -/
theorem State.busValue_busStore_same (v : Byte) (h : (s.plainCell a).isSome = true) :
    (s.busStore a v).busValue a = v := by
  obtain ⟨⟨st, n⟩, hn⟩ := Option.isSome_iff_exists.mp h
  cases hr : regionOf a
  case romFixed | romSwitched | unusable | io | ie => simp [State.plainCell, hr] at hn
  case eram =>
    obtain ⟨-, -, hi⟩ := (State.plainCell_eram_iff hr).mp hn
    simp only [State.busStore, State.busValue, hr, State.writeEram, hi]
    refine (State.readEram_of_index ?_).trans (State.cell_setCell_same s .eram n v)
    exact hi
  all_goals simp [State.busStore, State.busValue, hr]

/-- What a write to a plain address makes of a state: the byte is read back there, the CPU, the cartridge and the cells
that addresses name are as before, and so is what is read at an address that names another cell. -/
structure State.PlainWrite (s : State) (a : Word) (v : Byte) (t : State) : Prop where
  cpu : t.cpu = s.cpu
  cart : t.cart = s.cart
  plainCell : ∀ b, t.plainCell b = s.plainCell b
  same : t.busValue a = v
  other : ∀ b, regionOf b ≠ .unusable → s.plainCell b ≠ s.plainCell a → t.busValue b = s.busValue b

theorem State.plainWrite_busStore (v : Byte) (h : (s.plainCell a).isSome = true) :
    s.PlainWrite a v (s.busStore a v) := by
  obtain ⟨hb, -, -⟩ := State.plainCell_region h
  have hplain : ∀ b ∈ [a], (s.plainCell b).isSome = true := by simpa using h
  have hchange := s.busChange_busStore a v
  have hframe := storeFrame_busStore v hb
  obtain ⟨-, -, -, -, hmbc⟩ := hframe.plain hplain
  exact {
    cpu := hchange.cpu
    cart := hchange.cart
    plainCell := fun b => State.plainCell_congr hchange.cart fun _ => hmbc
    same := State.busValue_busStore_same v h
    other := fun b hu hne =>
      hframe.busValue hplain ((State.SameFixedParts.refl s).busChange hchange) hu (by simpa using hne) }

/-- A write to a plain address goes through. -/
theorem writeByte_plain (v : Byte) (h : (s.plainCell a).isSome = true) :
    ∃ t, writeByte a v s = .ok () t ∧ s.PlainWrite a v t := by
  obtain ⟨hb, -, hio⟩ := State.plainCell_region h
  exact ⟨_, writeByte_backed hb (ne_dma_of_region hio), State.plainWrite_busStore v h⟩

/-- Every size of external RAM is even (20 R92). -/
theorem Cart.two_dvd_ramSize (c : Cart) : 2 ∣ c.ramSize := by
  unfold Cart.ramSize ramSizeOfCode
  split <;> decide

/-- The byte of external RAM an address reaches has the parity of the address. -/
theorem State.eramIndex_parity {n : Nat} (h : s.eramIndex a = some n) (ha : 0xA000 ≤ a.toNat) :
    n % 2 = a.toNat % 2 := by
  have hmod (k : Nat) : k % s.cart.ramSize % 2 = k % 2 := Nat.mod_mod_of_dvd k s.cart.two_dvd_ramSize
  unfold State.eramIndex at h
  split at h
  · rw [Option.some.injEq] at h
    have := hmod (a.toNat - 0xA000)
    omega
  all_goals
    split at h
    · rw [Option.some.injEq] at h
      have := hmod (s.mbc.ramBank.toNat * 0x2000 + (a.toNat - 0xA000))
      omega
    · cases h

/-- The cell a plain address names has the parity of the address: no region's base is odd. -/
theorem State.plainCell_parity {st : Store} {n : Nat} (h : s.plainCell a = some (st, n)) : n % 2 = a.toNat % 2 := by
  obtain ⟨hlow, -⟩ := regionOf_bounds a
  cases hr : regionOf a <;> rw [hr] at hlow
  case romFixed | romSwitched | unusable | io | ie => simp [State.plainCell, hr] at h
  case eram => exact State.eramIndex_parity ((State.plainCell_eram_iff hr).mp h).2.2 hlow
  all_goals
    simp only [State.plainCell, hr, Option.some.injEq, Prod.mk.injEq] at h
    simp only [Region.first] at hlow
    omega

/-- Neighbouring plain addresses name different cells. -/
theorem State.plainCell_succ_ne (h : (s.plainCell a).isSome = true) : s.plainCell (a + 1) ≠ s.plainCell a := by
  obtain ⟨⟨st, n⟩, hn⟩ := Option.isSome_iff_exists.mp h
  rw [hn]
  intro hs
  have h0 := State.plainCell_parity hn
  have h1 := State.plainCell_parity hs
  bv_omega

end

/-! ### A pop after a push (41 R184 to R186) -/

/-- A push over plain storage goes through, moves `SP` two down, and leaves the two bytes there to be read. -/
theorem push16_plain (v : Word) {s : State} (h1 : (s.plainCell (s.cpu.sp - 1)).isSome = true)
    (h2 : (s.plainCell (s.cpu.sp - 2)).isSome = true) :
    ∃ u, push16 v s = .ok () u ∧ u.cpu = s.cpu.setSp (s.cpu.sp - 2) ∧ u.cart = s.cart ∧
      u.busValue (s.cpu.sp - 2) = loByte v ∧ u.busValue (s.cpu.sp - 1) = hiByte v := by
  have hsucc : s.cpu.sp - 2 + 1 = s.cpu.sp - 1 := by bv_omega
  have hne : s.plainCell (s.cpu.sp - 1) ≠ s.plainCell (s.cpu.sp - 2) := hsucc ▸ State.plainCell_succ_ne h2
  obtain ⟨u, hu, hfirst⟩ := writeByte_plain (s := s.onCpu fun c => c.setSp (c.sp - 1)) (hiByte v) h1
  obtain ⟨w, hw, hsecond⟩ := writeByte_plain (s := u.onCpu fun c => c.setSp (s.cpu.sp - 2)) (loByte v)
    ((congrArg Option.isSome (hfirst.plainCell _)).trans h2)
  have hother : u.plainCell (s.cpu.sp - 1) ≠ u.plainCell (s.cpu.sp - 2) := by
    rw [hfirst.plainCell, hfirst.plainCell]; exact hne
  refine ⟨w, (push16_of_ok hu).trans hw, ?_, hsecond.cart.trans hfirst.cart, hsecond.same, ?_⟩
  · rw [hsecond.cpu, State.onCpu_cpu, hfirst.cpu]
    rfl
  · exact (hsecond.other _ (State.plainCell_region h1).2.1 hother).trans hfirst.same

theorem exec_pushRp2_plain (p : Rp2) {s : State} (h1 : (s.plainCell (s.cpu.sp - 1)).isSome = true)
    (h2 : (s.plainCell (s.cpu.sp - 2)).isSome = true) :
    ∃ t, exec (.pushRp2 p) s = .next t ∧ t.cpu.sp = s.cpu.sp - 2 ∧ t.cart = s.cart ∧
      t.busValue (s.cpu.sp - 2) = loByte (s.cpu.rp2 p) ∧ t.busValue (s.cpu.sp - 1) = hiByte (s.cpu.rp2 p) := by
  obtain ⟨u, hpush, hcpu, hcart, hlo, hhi⟩ := push16_plain (s.cpu.rp2 p) (s := s.advanced 1) h1 h2
  exact ⟨_, exec_pushRp2_ok hpush, congrArg Cpu.sp hcpu, hcart, hlo, hhi⟩

theorem wordOf_maskLow (hi lo : Byte) : wordOf hi (lo &&& 0xF0) = wordOf hi lo &&& 0xFFF0 :=
  calc wordOf hi (lo &&& 0xF0)
    _ = wordOf (hi &&& BitVec.allOnes 8) (lo &&& 0xF0) := by rw [BitVec.and_allOnes]
    _ = wordOf hi lo &&& 0xFFF0 := BitVec.and_append.symm

/-- The pair after a pop of the two bytes of a word (41 R185, R186). -/
theorem Cpu.rp2_popped (c : Cpu) (q : Rp2) (v : Word) :
    (c.popped q (hiByte v) (loByte v)).rp2 q = if q = .af then v &&& 0xFFF0 else v := by
  cases q
  case af => exact (wordOf_maskLow _ _).trans (congrArg (· &&& 0xFFF0) (wordOf_hi_lo v))
  all_goals exact wordOf_hi_lo v

/-- Settles O11: the push leaves its bytes at two plain addresses that name different cells (`exec_pushRp2_plain`),
where the pop reads them (`exec_popRp2_backed`). -/
theorem popAfterPush : Obligations.PopAfterPush := by
  intro s p q h1 h2
  obtain ⟨t, hpush, hsp, hcart, hlo, hhi⟩ := exec_pushRp2_plain p h1 h2
  obtain ⟨hb1, hu1, -⟩ := State.plainCell_region h1
  obtain ⟨hb2, hu2, -⟩ := State.plainCell_region h2
  have hsucc : t.cpu.sp + 1 = s.cpu.sp - 1 := by rw [hsp]; bv_omega
  have hpop := exec_popRp2_backed (s := t) q (by rwa [hsp, State.backed_congr hcart])
    (by rwa [hsucc, State.backed_congr hcart])
  rw [hsucc, hsp, State.afterRead_of_region hu2, State.afterRead_of_region hu1, hhi, hlo] at hpop
  have hback : t.cpu.sp + 2 = s.cpu.sp := by rw [hsp]; bv_omega
  exact ⟨t, _, hpush, hpop, (t.cpu.popped_sp q _ _).trans hback, t.cpu.rp2_popped q (s.cpu.rp2 p)⟩

end Sys2Proof.Machine
end

section
/-! The 8-bit arithmetic: the flag byte by its bits, each operation against its integer formula, the byte at `HL` read
and then written, and the decimal adjustment of sums and differences (42 R200 to R216, 43 R231, R232, 20 R85). -/
namespace Sys2Proof.Machine

/-! ### The flag byte (10 R22, R23) -/

theorem Flags.toByte_eq_flagByte (f : Flags) : f.toByte = flagByte f.z f.n f.h f.c := by
  rcases f with ⟨z, n, h, c⟩
  revert z n h c; decide

theorem flagsOf_flagByte (z n h c : Bool) : flagsOf (flagByte z n h c) = ⟨z, n, h, c⟩ := by
  rw [← Flags.toByte_eq_flagByte ⟨z, n, h, c⟩, flagsOf_toByte]

@[simp] theorem bit_flagByte_n (z n h c : Bool) : bit (flagByte z n h c) 6 = n :=
  congrArg Flags.n (flagsOf_flagByte z n h c)
@[simp] theorem bit_flagByte_h (z n h c : Bool) : bit (flagByte z n h c) 5 = h :=
  congrArg Flags.h (flagsOf_flagByte z n h c)
@[simp] theorem bit_flagByte_c (z n h c : Bool) : bit (flagByte z n h c) 4 = c :=
  congrArg Flags.c (flagsOf_flagByte z n h c)

/-! ### Bytes of integers -/

/-- A difference of bytes without a sign: 512 more is the same byte. -/
theorem ofInt_sub_eq_ofNat (a k : Nat) (hk : k ≤ a + 512) :
    BitVec.ofInt 8 ((a : Int) - (k : Int)) = BitVec.ofNat 8 (a + 512 - k) := by
  apply BitVec.eq_of_toNat_eq
  rw [BitVec.toNat_ofInt, BitVec.toNat_ofNat]
  omega

theorem ofNat_eq_zero_iff (n : Nat) : BitVec.ofNat 8 n = 0 ↔ n % 256 = 0 := by
  rw [← BitVec.toNat_inj, BitVec.toNat_ofNat]
  rfl

theorem bitVal_le_one (b : Bool) : bitVal b ≤ 1 := by cases b <;> decide

/-! ### The eight operations on `A` (42 R200 to R208) -/

theorem subResult_eq (a v : Byte) (cin : Bool) :
    subResult a v cin = BitVec.ofNat 8 (a.toNat + 512 - v.toNat - bitVal cin) := by
  have hk : v.toNat + bitVal cin ≤ a.toNat + 512 := by have := bitVal_le_one cin; omega
  rw [subResult, Int.sub_sub, ← Int.natCast_add, ofInt_sub_eq_ofNat _ _ hk, Nat.sub_add_eq]

/-- The flags of an addition, as a byte (42 R200). -/
theorem addFlags_toByte (a v : Byte) (cin : Bool) :
    (addFlags a v cin).toByte = flagByte ((a.toNat + v.toNat + bitVal cin) % 256 == 0) false
      (15 < a.toNat % 16 + v.toNat % 16 + bitVal cin) (255 < a.toNat + v.toNat + bitVal cin) := by
  rw [Flags.toByte_eq_flagByte]
  simp only [addFlags, addResult, ofNat_eq_zero_iff]
  rfl

/-- The flags of a subtraction, as a byte (42 R200). -/
theorem subFlags_toByte (a v : Byte) (cin : Bool) :
    (subFlags a v cin).toByte = flagByte ((a.toNat + 512 - v.toNat - bitVal cin) % 256 == 0) true
      (a.toNat % 16 < v.toNat % 16 + bitVal cin) (a.toNat < v.toNat + bitVal cin) := by
  rw [Flags.toByte_eq_flagByte]
  simp only [subFlags, subResult_eq, ofNat_eq_zero_iff]
  rfl

theorem aluOnA_eq_specAlu (op : AluOp) (v : Byte) (c : Cpu) : aluOnA op v c = specAlu op v c := by
  cases op with
  | add | adc =>
    simp only [aluOnA, aluResult, aluFlags, addFlags_toByte]
    rfl
  | sub | sbc | cp =>
    simp only [aluOnA, aluResult, aluFlags, subFlags_toByte, subResult_eq]
    rfl
  | and | xor | or =>
    simp only [aluOnA, aluResult, aluFlags, Flags.toByte_eq_flagByte]
    rfl

theorem apartFromPc_aluOnA (op : AluOp) {v : Cpu → Byte} (hv : ∀ c pc, v (c.setPc pc) = v c) :
    ApartFromPc fun c => aluOnA op (v c) c := by
  intro c pc ticks
  simp only [hv]
  rfl

theorem exec_aluImm_eq (op : AluOp) (n8 : Byte) (s : State) :
    exec (.aluImm op n8) s = .next (s.afterCpu 2 8 (specAlu op n8)) := by
  rw [exec_aluImm, ← funext (aluOnA_eq_specAlu op n8)]
  exact runOp_cpuOnly_afterCpu (apartFromPc_aluOnA op fun _ _ => rfl) 2 8 s

/-- Settles O12: the three operand forms run one operation on `A` (`apartFromPc_aluOnA`, `runOp_readInto`), and that
operation is its integer formula (`aluOnA_eq_specAlu`). -/
theorem aluForms : Obligations.AluForms := by
  have ofHl (op : AluOp) (s : State) : LoadsByte (exec (.aluHl op) s) s s.cpu.hl 1 8 (specAlu op) := by
    rw [exec_aluHl, ← funext₂ (aluOnA_eq_specAlu op)]
    exact runOp_readInto (fun _ => apartFromPc_aluOnA op fun _ _ => rfl) (withHl_eq_readInto _ _)
  refine ⟨fun op r s => ?_, exec_aluImm_eq, fun op s => (ofHl op s).1, fun op s => (ofHl op s).2⟩
  simp only [exec_aluR, ← aluOnA_eq_specAlu]
  exact runOp_cpuOnly_afterCpu (apartFromPc_aluOnA op fun c pc => c.reg_setPc pc r) 1 4 s

/-! ### Increments and decrements (42 R209 to R212, 43 R231, R232) -/

theorem inc_eq_specInc (v : Byte) : v + 1 = specInc v := by
  unfold specInc; bv_omega

theorem dec_eq_specDec (v : Byte) : v - 1 = specDec v := by
  unfold specDec; bv_omega

theorem lowNibble_eq_iff (v k : Byte) : v &&& 0x0F = k ↔ v.toNat % 16 = k.toNat := by
  rw [← BitVec.toNat_inj, BitVec.toNat_and]
  exact Eq.congr_left (Nat.and_two_pow_sub_one_eq_mod v.toNat 4)

theorem incFlags_toByte (v f : Byte) : (incFlags v (flagsOf f)).toByte = specIncFlags v f := by
  have hz : v + 1 = 0 ↔ v = 0xFF := by bv_omega
  rw [Flags.toByte_eq_flagByte]
  simp only [incFlags, hz, lowNibble_eq_iff v 0x0F]
  rfl

theorem decFlags_toByte (v f : Byte) : (decFlags v (flagsOf f)).toByte = specDecFlags v f := by
  have hz : v - 1 = 0 ↔ v = 1 := by bv_omega
  rw [Flags.toByte_eq_flagByte]
  simp only [decFlags, hz, lowNibble_eq_iff v 0x00]
  rfl

theorem apartFromPc_modifyReg (r : R8) (result : Byte → Flags → Byte) (flags : Byte → Flags → Option Flags) :
    ApartFromPc (modifyReg r result flags) := by
  intro c pc ticks
  have hv : (c.setPc pc).reg r = c.reg r := c.reg_setPc pc r
  have hf : (c.setPc pc).flags = c.flags := rfl
  unfold modifyReg
  simp only [hv, hf]
  cases flags (c.reg r) c.flags <;> cases r <;> rfl

theorem runOp_modifyPair (p : Rp) {g : Word → Word} (s : State) :
    runOp 1 8 (cpuOnly fun c => c.setRp p (g (c.rp p))) s =
      .next (s.afterCpu 1 8 fun c => c.setRp p (g (c.rp p))) := by
  refine runOp_cpuOnly_afterCpu (fun c pc ticks => ?_) 1 8 s
  cases p <;> rfl

/-- A read-modify-write whose two accesses go through: the flags after the write, or left alone (20 R85). -/
theorem modifyHl_ok {result : Byte → Flags → Byte} {flags : Byte → Flags → Option Flags} {s u : State}
    (hb : s.backed s.cpu.hl = true)
    (hw : writeByte s.cpu.hl (result (s.busValue s.cpu.hl) s.cpu.flags) (s.afterRead s.cpu.hl) = .ok () u) :
    modifyHl result flags s = .ok () (u.onCpu fun c =>
      { c with f := ((flags (s.busValue s.cpu.hl) s.cpu.flags).map Flags.toByte).getD s.cpu.f }) := by
  have hcpu : u.cpu = s.cpu := (writeByte_ok_cpu hw).trans (s.afterRead_cpu _)
  unfold modifyHl
  simp only [readByte_backed hb, Access.andThen_ok, State.afterRead_cpu, hw]
  cases flags (s.busValue s.cpu.hl) s.cpu.flags with
  | some f => rfl
  | none =>
    rw [Option.map_none, Option.getD_none, ← hcpu]
    rfl

theorem modifyHl_stop {result : Byte → Flags → Byte} {flags : Byte → Flags → Option Flags} {s u : State} {info : Fault}
    (hb : s.backed s.cpu.hl = true)
    (hw : writeByte s.cpu.hl (result (s.busValue s.cpu.hl) s.cpu.flags) (s.afterRead s.cpu.hl) = .stop info u) :
    modifyHl result flags s = .stop info u := by
  unfold modifyHl
  simp only [readByte_backed hb, Access.andThen_ok, State.afterRead_cpu, hw, Access.andThen_stop]

theorem modifyHl_unbacked {result : Byte → Flags → Byte} {flags : Byte → Flags → Option Flags} {s : State}
    (hb : s.backed s.cpu.hl = false) : modifyHl result flags s = .stop (.invalidBankDispatch s.cpu.hl) s := by
  unfold modifyHl
  rw [readByte_unbacked hb, Access.andThen_stop]

/-- The answer of an instruction that reads the byte at `HL`, writes `r` there, and then leaves `f` in the flag byte:
completed where the store is ready to go through, stopped where the write or the read stops (20 R85, R101). -/
def ModifiesByte (x : Answer) (s : State) (r f : Byte) (len ticks : Nat) : Prop :=
  (s.storeReady s.cpu.hl r = true → ∃ u, writeByte s.cpu.hl r ((s.advanced len).afterRead s.cpu.hl) = .ok () u ∧
    x = .next (u.onCpu fun c => { c with f := f, ticks := c.ticks + ticks })) ∧
  (∀ info u, s.backed s.cpu.hl = true →
    writeByte s.cpu.hl r ((s.advanced len).afterRead s.cpu.hl) = .stop info u → x = .next (u.raise info)) ∧
  (s.backed s.cpu.hl = false → x = .next ((s.advanced len).raise (.invalidBankDispatch s.cpu.hl)))

theorem runOp_modifyHl {result : Byte → Flags → Byte} {flags : Byte → Flags → Option Flags} {s : State} {r f : Byte}
    (hr : result (s.busValue s.cpu.hl) s.cpu.flags = r)
    (hf : ((flags (s.busValue s.cpu.hl) s.cpu.flags).map Flags.toByte).getD s.cpu.f = f) (len ticks : Nat) :
    ModifiesByte (runOp len ticks (modifyHl result flags) s) s r f len ticks := by
  subst hr hf
  refine ⟨fun hready => ?_, fun info u hb hw => ?_, fun hb => ?_⟩
  · have hb : s.backed s.cpu.hl = true := (Bool.and_eq_true_iff.mp hready).1
    have hadv : ((s.advanced len).afterRead s.cpu.hl).storeReady s.cpu.hl
        (result (s.busValue s.cpu.hl) s.cpu.flags) = true :=
      (State.storeReady_congr (by simp [State.advanced]) (by simp [State.advanced]) _ _).trans hready
    obtain ⟨u, hu⟩ := writeByte_of_storeReady hadv
    exact ⟨u, hu, runOp_ok (modifyHl_ok (s := s.advanced len) hb hu)⟩
  · exact runOp_stop (modifyHl_stop (s := s.advanced len) hb hw)
  · exact runOp_stop (modifyHl_unbacked (s := s.advanced len) hb)

/-- Settles O13: the register forms are changes of the CPU apart from `PC` (`apartFromPc_modifyReg`), the memory forms
one read and one write (`runOp_modifyHl`). -/
theorem incrementsAndDecrements : Obligations.IncrementsAndDecrements := by
  refine ⟨fun r s => ?_, fun r s => ?_, fun p s => ?_, fun p s => ?_, fun s => ?_⟩
  · simp only [exec_incR, ← incFlags_toByte, ← inc_eq_specInc]
    exact runOp_cpuOnly_afterCpu (apartFromPc_modifyReg r _ _) 1 4 s
  · simp only [exec_decR, ← decFlags_toByte, ← dec_eq_specDec]
    exact runOp_cpuOnly_afterCpu (apartFromPc_modifyReg r _ _) 1 4 s
  · have hinc (v : Word) : BitVec.ofNat 16 (v.toNat + 1) = v + 1 := by bv_omega
    simp only [exec_incRp, hinc]
    exact runOp_modifyPair p (g := (· + 1)) s
  · have hdec (v : Word) : BitVec.ofNat 16 (v.toNat + 65535) = v - 1 := by bv_omega
    simp only [exec_decRp, hdec]
    exact runOp_modifyPair p (g := (· - 1)) s
  · obtain ⟨incOk, incStop, incUnbacked⟩ : ModifiesByte (exec .inc_atHL s) s (specInc (s.busValue s.cpu.hl))
        (specIncFlags (s.busValue s.cpu.hl) s.cpu.f) 1 12 :=
      runOp_modifyHl (flags := fun o old => some (incFlags o old)) (inc_eq_specInc _) (incFlags_toByte _ _) 1 12
    obtain ⟨decOk, decStop, decUnbacked⟩ : ModifiesByte (exec .dec_atHL s) s (specDec (s.busValue s.cpu.hl))
        (specDecFlags (s.busValue s.cpu.hl) s.cpu.f) 1 12 :=
      runOp_modifyHl (flags := fun o old => some (decFlags o old)) (dec_eq_specDec _) (decFlags_toByte _ _) 1 12
    exact ⟨incOk, decOk, fun info u hw hb => incStop info u hb hw, fun info u hw hb => decStop info u hb hw,
      fun hb => ⟨incUnbacked hb, decUnbacked hb⟩⟩

/-! ### The adjustments of `A` and of the carry (42 R213 to R216) -/

/-- The CPU after `DAA`, by the model's own result and flags. -/
def Cpu.adjusted (c : Cpu) : Cpu := { c with a := daaResult c.a c.flags, f := (daaFlags c.a c.flags).toByte }

theorem daaAdjust_le (a : Byte) (old : Flags) : daaAdjust a old ≤ 0x66 := by
  unfold daaAdjust daaLow
  split <;> split <;> decide

/-- The result of `DAA` without integers: 512 more is the same byte (42 R213). -/
theorem daaResult_eq (a : Byte) (old : Flags) : daaResult a old =
    BitVec.ofNat 8 (if old.n then a.toNat + 512 - daaAdjust a old else a.toNat + daaAdjust a old) := by
  have hk : daaAdjust a old ≤ a.toNat + 512 := by have := daaAdjust_le a old; omega
  unfold daaResult
  rw [ofInt_sub_eq_ofNat _ _ hk]
  exact (apply_ite _ _ _ _).symm

theorem daaLow_eq (a : Byte) (old : Flags) :
    daaLow a old = if old.h || (!old.n && decide (9 < a.toNat % 16)) then 6 else 0 := by
  simp [daaLow]

theorem Cpu.adjusted_eq_specDaa (c : Cpu) : c.adjusted = specDaa c := by
  simp only [Cpu.adjusted, Flags.toByte_eq_flagByte, daaFlags, daaResult_eq, daaAdjust, daaLow_eq]
  rfl

theorem exec_daa (s : State) : exec .daa s = .next (s.afterCpu 1 4 specDaa) := by
  rw [← funext Cpu.adjusted_eq_specDaa]
  exact runOp_cpuOnly_afterCpu (f := Cpu.adjusted) (fun _ _ _ => rfl) 1 4 s

/-- Settles O14: `DAA` by `exec_daa`; the other three write the flag byte of the flags they name
(`Flags.toByte_eq_flagByte`). -/
theorem accumulatorAdjusts : Obligations.AccumulatorAdjusts := by
  intro s
  have hnot (a : Byte) : BitVec.ofNat 8 (255 - a.toNat) = ~~~a := by bv_omega
  simp only [hnot, ← Flags.toByte_eq_flagByte ⟨_, _, _, _⟩]
  exact ⟨exec_daa s, rfl, rfl, rfl⟩

/-! ### Decimal arithmetic (42 R213) -/

theorem toNat_bcd {n : Nat} (h : n < 100) : (bcd n).toNat = n / 10 * 16 + n % 10 := by
  rw [bcd, BitVec.toNat_ofNat]
  omega

/-- The low nibble of a packed number is its low digit. -/
theorem packed_low (n : Nat) : (n / 10 * 16 + n % 10) % 16 = n % 10 := by omega

theorem specDaa_after_add {c : Cpu} {z h cy : Bool} (hf : c.f = flagByte z false h cy) :
    (specDaa c).a = BitVec.ofNat 8 (c.a.toNat + ((if h || decide (9 < c.a.toNat % 16) then 6 else 0) +
      (if cy || decide (0x99 < c.a.toNat) then 0x60 else 0))) ∧
    bit (specDaa c).f 4 = (cy || decide (0x99 < c.a.toNat)) := by
  simp [specDaa, hf]

theorem specDaa_after_sub {c : Cpu} {z h cy : Bool} (hf : c.f = flagByte z true h cy) :
    (specDaa c).a = BitVec.ofNat 8 (c.a.toNat + 512 - ((if h then 6 else 0) + (if cy then 0x60 else 0))) ∧
    bit (specDaa c).f 4 = cy := by
  simp [specDaa, hf]

/-- The low digits carry exactly when their nibbles do, or leave more than 9 (42 R213). -/
theorem lowCarry_iff (x y : Nat) :
    (15 < x % 10 + y % 10 ∨ 9 < (x / 10 * 16 + x % 10 + (y / 10 * 16 + y % 10)) % 256 % 16) ↔
      10 ≤ x % 10 + y % 10 := by
  omega

theorem packed_lt_iff (x y : Nat) : x / 10 * 16 + x % 10 < y / 10 * 16 + y % 10 ↔ x < y := by
  omega

section
variable {x y : Nat} (hx : x < 100) (hy : y < 100)
include hx hy

/-- Two numbers carry exactly when their packed bytes do, or leave more than 0x99 (42 R213). -/
theorem highCarry_iff : (255 < x / 10 * 16 + x % 10 + (y / 10 * 16 + y % 10) ∨
    0x99 < (x / 10 * 16 + x % 10 + (y / 10 * 16 + y % 10)) % 256) ↔ 100 ≤ x + y := by
  have hmod {n : Nat} (hn : n < 410) : (255 < n ∨ 0x99 < n % 256) ↔ 0x99 < n := by omega
  rw [hmod (by omega)]
  omega

/-- Each decimal carry adds the 6 a nibble holds more than a digit. -/
theorem bcd_add : BitVec.ofNat 8 ((x / 10 * 16 + x % 10 + (y / 10 * 16 + y % 10)) % 256 +
    ((if 10 ≤ x % 10 + y % 10 then 6 else 0) + (if 100 ≤ x + y then 0x60 else 0))) = bcd ((x + y) % 100) := by
  apply BitVec.eq_of_toNat_eq
  rw [BitVec.toNat_ofNat, toNat_bcd (Nat.mod_lt _ (by decide))]
  split <;> split <;> omega

/-- Each decimal borrow takes the 6 a nibble holds more than a digit. -/
theorem bcd_sub : BitVec.ofNat 8 ((x / 10 * 16 + x % 10 + 512 - (y / 10 * 16 + y % 10)) % 256 + 512 -
    ((if x % 10 < y % 10 then 6 else 0) + (if x < y then 0x60 else 0))) = bcd ((x + 100 - y) % 100) := by
  apply BitVec.eq_of_toNat_eq
  rw [BitVec.toNat_ofNat, toNat_bcd (Nat.mod_lt _ (by decide))]
  split <;> split <;> omega

theorem specDaa_add_bcd {c : Cpu} (ha : c.a = bcd x) :
    (specDaa (specAlu .add (bcd y) c)).a = bcd ((x + y) % 100) ∧
    bit (specDaa (specAlu .add (bcd y) c)).f 4 = decide (100 ≤ x + y) := by
  obtain ⟨hres, hcy⟩ := specDaa_after_add (c := specAlu .add (bcd y) c) rfl
  have hsum : (specAlu .add (bcd y) c).a.toNat = (x / 10 * 16 + x % 10 + (y / 10 * 16 + y % 10)) % 256 := by
    simp only [specAlu, ha, toNat_bcd hx, toNat_bcd hy, BitVec.toNat_ofNat]
    rfl
  simp only [hres, hcy, hsum, ha, toNat_bcd hx, toNat_bcd hy, ← Bool.decide_or, Nat.add_zero, packed_low,
    highCarry_iff hx hy, decide_eq_true_eq, lowCarry_iff, bcd_add hx hy, and_self]

theorem specDaa_sub_bcd {c : Cpu} (ha : c.a = bcd x) :
    (specDaa (specAlu .sub (bcd y) c)).a = bcd ((x + 100 - y) % 100) ∧
    bit (specDaa (specAlu .sub (bcd y) c)).f 4 = decide (x < y) := by
  obtain ⟨hres, hcy⟩ := specDaa_after_sub (c := specAlu .sub (bcd y) c) rfl
  have hdiff : (specAlu .sub (bcd y) c).a.toNat = (x / 10 * 16 + x % 10 + 512 - (y / 10 * 16 + y % 10)) % 256 := by
    simp only [specAlu, ha, toNat_bcd hx, toNat_bcd hy, BitVec.toNat_ofNat]
    rfl
  simp only [hres, hcy, hdiff, ha, toNat_bcd hx, toNat_bcd hy, Nat.add_zero, packed_low, packed_lt_iff,
    decide_eq_true_eq, bcd_sub hx hy, and_self]

end

/-- Settles O15: the two instructions run one after the other (`exec_aluImm_eq`, `exec_daa`), and `DAA` corrects the sum
and the difference digit by digit (`specDaa_add_bcd`, `specDaa_sub_bcd`). -/
theorem decimalArithmetic : Obligations.DecimalArithmetic := by
  intro s x y hx hy ha
  exact ⟨⟨_, _, exec_aluImm_eq .add _ s, exec_daa _, specDaa_add_bcd hx hy ha⟩,
    ⟨_, _, exec_aluImm_eq .sub _ s, exec_daa _, specDaa_sub_bcd hx hy ha⟩⟩

end Sys2Proof.Machine
end

section
/-! The 16-bit arithmetic: sign extension and the two additions as integer formulas, and the three instructions that write
flags from them (43 R230, R233, 41 R183). -/
namespace Sys2Proof.Machine

/-! ### Words of integers -/

/-- A byte's value with its sign is the value of its two's complement (00 R7). -/
theorem signed8_eq_toInt (v : Byte) : signed8 v = v.toInt := by
  unfold signed8
  rw [BitVec.toInt_eq_toNat_cond]
  split <;> split <;> omega

theorem sext16_eq_ofInt_signed8 (v : Byte) : sext16 v = BitVec.ofInt 16 (signed8 v) := by
  rw [signed8_eq_toInt]
  rfl

theorem add_sext16_eq_specSpOffset (sp : Word) (e8 : Byte) : sp + sext16 e8 = specSpOffset sp e8 := by
  rw [specSpOffset, BitVec.ofInt_add, BitVec.ofInt_natCast, BitVec.ofNat_toNat, BitVec.setWidth_eq,
    sext16_eq_ofInt_signed8]

theorem spOffsetFlags_toByte (sp : Word) (e8 : Byte) : (spOffsetFlags sp e8).toByte = specSpFlags sp e8 :=
  Flags.toByte_eq_flagByte _

/-! ### `ADD HL,rp`, and `SP` plus a displacement -/

/-- The sum and its flags in the model's own terms are the integer formula (43 R230). -/
theorem setHl_add_setFlags_eq_specAddHl (v : Word) (c : Cpu) :
    (c.setHl (c.hl + v)).setFlags (addHlFlags c.hl v c.flags) = specAddHl v c := by
  have hsum : c.hl + v = BitVec.ofNat 16 (c.hl.toNat + v.toNat) := by bv_omega
  rw [Cpu.setFlags, Flags.toByte_eq_flagByte, hsum]
  rfl

theorem Cpu.rp_setPc (c : Cpu) (pc : Word) (p : Rp) : (c.setPc pc).rp p = c.rp p := by cases p <;> rfl

theorem apartFromPc_specAddHl (p : Rp) : ApartFromPc fun c => specAddHl (c.rp p) c := by
  intro c pc ticks
  simp only [Cpu.rp_setPc]
  rfl

/-- Settles O16: each change is apart from `PC` and the ticks (`runOp_cpuOnly_afterCpu`), and is its integer formula
(`setHl_add_setFlags_eq_specAddHl`, `add_sext16_eq_specSpOffset`, `spOffsetFlags_toByte`). -/
theorem wordArithmetic : Obligations.WordArithmetic := by
  simp only [Obligations.WordArithmetic, ← add_sext16_eq_specSpOffset, ← spOffsetFlags_toByte]
  refine ⟨fun p s => ?_, fun e8 s => ?_, fun e8 s => ?_⟩
  · simp only [exec_addHlRp, addHlPair, setHl_add_setFlags_eq_specAddHl]
    exact runOp_cpuOnly_afterCpu (apartFromPc_specAddHl p) 1 8 s
  · exact runOp_cpuOnly_afterCpu (fun _ _ _ => rfl) 2 16 s
  · exact runOp_cpuOnly_afterCpu (fun _ _ _ => rfl) 2 12 s

end Sys2Proof.Machine
end

section
/-! The rotates, shifts and bit instructions: each rotate as an integer formula, `RES` and `SET` bit by bit, and the
register and memory forms of all of them (44 R240 to R255, 20 R85). -/
namespace Sys2Proof.Machine

/-! ### The bit a rotate shifts out (44 R241 to R252) -/

theorem bit_eq_decide (v : Byte) (i : Nat) : bit v i = decide (v.toNat / 2 ^ i % 2 = 1) :=
  Nat.testBit_eq_decide_div_mod_eq

theorem bit_seven_eq_decide (v : Byte) : bit v 7 = decide (128 ≤ v.toNat) := by
  have htop : v.toNat / 2 ^ 7 % 2 = 1 ↔ 128 ≤ v.toNat := by omega
  simp only [bit_eq_decide, htop]

theorem bit_zero_eq_decide (v : Byte) : bit v 0 = decide (v.toNat % 2 = 1) := by
  rw [bit_eq_decide, pow_zero, Nat.div_one]

theorem bitVal_bit_seven (v : Byte) : bitVal (bit v 7) = v.toNat / 128 := by
  simp only [bit_seven_eq_decide, bitVal, decide_eq_true_eq]
  split <;> omega

theorem bitVal_bit_zero (v : Byte) : bitVal (bit v 0) = v.toNat % 2 := by
  simp only [bit_zero_eq_decide, bitVal, decide_eq_true_eq]
  split <;> omega

theorem rotCarry_eq_specRotCarry (op : RotOp) (v : Byte) : rotCarry op v = specRotCarry op v := by
  cases op with
  | rlc | rl | sla => exact bit_seven_eq_decide v
  | rrc | rr | sra | srl => exact bit_zero_eq_decide v
  | swap => rfl

/-! ### The result of a rotate as an integer formula (44 R241 to R252) -/

/-- A bit shifted in at the bottom. -/
theorem shiftLeft_or_bit (v : Byte) (c : Bool) :
    v <<< 1 ||| (if c then 1 else 0) = BitVec.ofNat 8 (v.toNat * 2 + bitVal c) := by
  have hdisjoint : v <<< 1 &&& (if c then 1 else 0) = 0#8 := by
    revert v c; decide
  have hbit : (if c then 1 else 0 : Byte).toNat = bitVal c := by cases c <;> rfl
  apply BitVec.eq_of_toNat_eq
  rw [← BitVec.add_eq_or_of_and_eq_zero _ _ hdisjoint, BitVec.toNat_add, BitVec.toNat_shiftLeft, hbit,
    BitVec.toNat_ofNat]
  omega

/-- A bit shifted in at the top. -/
theorem shiftRight_or_bit (v : Byte) (c : Bool) :
    v >>> 1 ||| (if c then 0x80 else 0) = BitVec.ofNat 8 (v.toNat / 2 + bitVal c * 128) := by
  have hdisjoint : v >>> 1 &&& (if c then 0x80 else 0) = 0#8 := by
    revert v c; decide
  have hbit : (if c then 0x80 else 0 : Byte).toNat = bitVal c * 128 := by cases c <;> rfl
  apply BitVec.eq_of_toNat_eq
  rw [← BitVec.add_eq_or_of_and_eq_zero _ _ hdisjoint, BitVec.toNat_add, BitVec.toNat_ushiftRight, hbit,
    BitVec.toNat_ofNat]
  omega

theorem swap_nibbles (v : Byte) : v <<< 4 ||| v >>> 4 = BitVec.ofNat 8 (v.toNat * 16 + v.toNat / 16) := by
  have hdisjoint : v <<< 4 &&& v >>> 4 = 0#8 := by
    revert v; decide
  rw [← BitVec.add_eq_or_of_and_eq_zero _ _ hdisjoint]
  bv_omega

theorem rotResult_eq_specRot (op : RotOp) (v : Byte) (c : Bool) :
    rotResult op v c = specRot op v.toNat (bitVal c) := by
  cases op with
  | rlc => exact (shiftLeft_or_bit v (bit v 7)).trans (by rw [bitVal_bit_seven]; rfl)
  | rrc => exact (shiftRight_or_bit v (bit v 0)).trans (by rw [bitVal_bit_zero]; rfl)
  | rl => exact shiftLeft_or_bit v c
  | rr => exact shiftRight_or_bit v c
  | sla => exact BitVec.or_zero.symm.trans (shiftLeft_or_bit v false)
  | sra =>
    have htop : v &&& 0x80 = if bit v 7 then 0x80 else 0 := BitVec.and_twoPow v 7
    have hres := shiftRight_or_bit v (bit v 7)
    rw [← htop, bitVal_bit_seven] at hres
    exact hres
  | swap => exact swap_nibbles v
  | srl => exact BitVec.or_zero.symm.trans (shiftRight_or_bit v false)

theorem rotFlags_toByte (op : RotOp) (v : Byte) (c : Bool) : (rotFlags op v c).toByte =
    flagByte (specRot op v.toNat (bitVal c) == 0) false false (specRotCarry op v) := by
  rw [Flags.toByte_eq_flagByte, ← rotResult_eq_specRot, ← rotCarry_eq_specRotCarry]
  rfl

theorem rotAccFlags_toByte (op : RotOp) (v : Byte) :
    (rotAccFlags op v).toByte = flagByte false false false (specRotCarry op v) := by
  rw [Flags.toByte_eq_flagByte, ← rotCarry_eq_specRotCarry]
  rfl

/-! ### Rotates of registers (44 R241 to R252) -/

/-- An accumulator rotate: the prefixed operation on `A`, with Z cleared (44 R241 to R244). -/
theorem rotateA_eq (op : RotOp) (s : State) : rotateA op s = .next (s.afterCpu 1 4 fun c =>
    { c with a := specRot op c.a.toNat (bitVal (bit c.f 4)),
             f := flagByte false false false (specRotCarry op c.a) }) := by
  simp only [← rotResult_eq_specRot, ← rotAccFlags_toByte]
  exact runOp_cpuOnly_afterCpu (apartFromPc_modifyReg .a _ _) 1 4 s

/-- Settles O17: a rotate is a change of the CPU apart from `PC` (`apartFromPc_modifyReg`), and its result and flags are
the integer formulas (`rotResult_eq_specRot`, `rotFlags_toByte`, `rotateA_eq`). -/
theorem rotatesOfRegisters : Obligations.RotatesOfRegisters := by
  refine ⟨fun op r s => ?_, rotateA_eq .rlc, rotateA_eq .rrc, rotateA_eq .rl, rotateA_eq .rr⟩
  simp only [exec_rotR, ← rotFlags_toByte]
  simp only [← rotResult_eq_specRot]
  exact runOp_cpuOnly_afterCpu (apartFromPc_modifyReg r _ _) 2 8 s

/-! ### One bit changed (44 R254, R255) -/

theorem eq_of_bit_eq {v w : Byte} (h : ∀ j, j < 8 → bit v j = bit w j) : v = w :=
  BitVec.eq_of_getLsbD_eq h

theorem bit_one_shiftLeft (b : Nat) {j : Nat} (hj : j < 8) : bit (1#8 <<< b) j = decide (j = b) := by
  rw [← BitVec.twoPow_eq, bit, BitVec.getLsbD_twoPow, ← Bool.decide_and, decide_eq_decide]
  omega

theorem bit_resBit (b : Nat) (v : Byte) {j : Nat} (hj : j < 8) :
    bit (resBit b v) j = (decide (j ≠ b) && bit v j) :=
  calc bit (resBit b v) j
    _ = (bit v j && !bit (1#8 <<< b) j) := by simp [resBit, bit, hj]
    _ = (decide (j ≠ b) && bit v j) := by rw [bit_one_shiftLeft b hj, Bool.and_comm, decide_not]

theorem bit_setBit (b : Nat) (v : Byte) {j : Nat} (hj : j < 8) :
    bit (setBit b v) j = (decide (j = b) || bit v j) :=
  calc bit (setBit b v) j
    _ = (bit v j || bit (1#8 <<< b) j) := BitVec.getLsbD_or
    _ = (decide (j = b) || bit v j) := by rw [bit_one_shiftLeft b hj, Bool.or_comm]

/-- Settles O19: `BIT` changes the flags apart from `PC` (`runOp_cpuOnly_afterCpu`, `runOp_readInto`); `RES` and `SET`
leave the byte with that one bit changed (`bit_resBit`, `bit_setBit`). -/
theorem bitInstructions : Obligations.BitInstructions := by
  have test (b : Oct) (s : State) : LoadsByte (exec (.bitHl b) s) s s.cpu.hl 2 12 fun v c =>
      { c with f := flagByte (!(bit v b.toNat)) false true (bit c.f 4) } := by
    simp only [exec_bitHl, ← Flags.toByte_eq_flagByte ⟨_, _, _, _⟩]
    exact runOp_readInto (fun _ _ _ _ => rfl) (withHl_eq_readInto _ _)
  refine ⟨fun b r s => ?_, fun b s => (test b s).1, fun b s => (test b s).2,
    fun b r s => ⟨resBit b.toNat (s.cpu.reg r), fun j => bit_resBit b.toNat _, ?_⟩,
    fun b r s => ⟨setBit b.toNat (s.cpu.reg r), fun j => bit_setBit b.toNat _, ?_⟩⟩
  · simp only [exec_bitR, ← Flags.toByte_eq_flagByte ⟨_, _, _, _⟩]
    refine runOp_cpuOnly_afterCpu (fun c pc ticks => ?_) 2 8 s
    rw [Cpu.reg_setPc]
    rfl
  · rw [exec_resR]
    exact runOp_cpuOnly_afterCpu (apartFromPc_modifyReg r _ _) 2 8 s
  · rw [exec_setR]
    exact runOp_cpuOnly_afterCpu (apartFromPc_modifyReg r _ _) 2 8 s

/-! ### The byte at `HL` (44 R245 to R255, 20 R85) -/

/-- Settles O18: each form is one read and one write (`runOp_modifyHl`), of the rotate's integer formula or of the one
byte whose bits are those required (`eq_of_bit_eq`). -/
theorem rotatesAndBitsOfMemory : Obligations.RotatesAndBitsOfMemory := by
  intro s
  have rotates (op : RotOp) :
      let v := s.busValue s.cpu.hl
      let r := specRot op v.toNat (bitVal (bit s.cpu.f 4))
      ModifiesByte (exec (.rotHl op) s) s r (flagByte (r == 0) false false (specRotCarry op v)) 2 16 := by
    rw [exec_rotHl]
    exact runOp_modifyHl (flags := fun v old => some (rotFlags op v old.c)) (rotResult_eq_specRot op _ _)
      (rotFlags_toByte op _ _) 2 16
  have resets (b : Oct) : ModifiesByte (exec (.resHl b) s) s (resBit b.toNat (s.busValue s.cpu.hl)) s.cpu.f 2 16 := by
    rw [exec_resHl]
    exact runOp_modifyHl rfl rfl 2 16
  have sets (b : Oct) : ModifiesByte (exec (.setHl b) s) s (setBit b.toNat (s.busValue s.cpu.hl)) s.cpu.f 2 16 := by
    rw [exec_setHl]
    exact runOp_modifyHl rfl rfl 2 16
  refine ⟨rotates, fun b v hv => ?_, fun b v hv => ?_⟩
  · obtain rfl : v = resBit b.toNat (s.busValue s.cpu.hl) :=
      eq_of_bit_eq fun j hj => (hv j hj).trans (bit_resBit _ _ hj).symm
    exact resets b
  · obtain rfl : v = setBit b.toNat (s.busValue s.cpu.hl) :=
      eq_of_bit_eq fun j hj => (hv j hj).trans (bit_setBit _ _ hj).symm
    exact sets b

end Sys2Proof.Machine
end

section
/-! The control transfers: a conditional instruction as its taken and its untaken case, a call as the two writes of its
push and a return as the two reads of its pop (45 R270 to R281, 00 R10). -/
namespace Sys2Proof.Machine

/-! ### Conditions and jumps (45 R270 to R275, 30 R125) -/

theorem condHolds_flags_eq_specCond (cc : Cond) (c : Cpu) : condHolds cc c.flags = specCond cc c.f := by
  cases cc <;> rfl

theorem State.onCpu_addTicks_addTicks (s : State) (j k : Nat) :
    (s.onCpu fun c => c.addTicks j).onCpu (fun c => c.addTicks k) = s.onCpu fun c => c.addTicks (k + j) := by
  simp only [State.onCpu_onCpu, Cpu.addTicks, Nat.add_assoc, Nat.add_comm j k]

/-- An instruction depends on its handler only in the state past it (30 R121). -/
theorem runOp_congr {len ticks : Nat} {handler handler' : State → Access Unit} {s : State}
    (h : handler (s.advanced len) = handler' (s.advanced len)) :
    runOp len ticks handler s = runOp len ticks handler' s :=
  congrArg (fun x : Access Unit => (x.andThen fun _ u => .ok () (u.onCpu fun c => c.addTicks ticks)).answer) h

/-- The extra ticks of a taken case are ticks of its instruction. -/
theorem runOp_addTicks (len ticks extra : Nat) (handler : State → Access Unit) (s : State) :
    runOp len ticks (fun s => (handler s).andThen fun _ u => .ok () (u.onCpu fun c => c.addTicks extra)) s =
      runOp len (ticks + extra) handler s := by
  rcases runOp_cases len (ticks + extra) handler s with ⟨u, hu, hn⟩ | ⟨info, u, hu, hn⟩
  · rw [hn, ← State.onCpu_addTicks_addTicks]
    exact runOp_ok (by rw [hu, Access.andThen_ok])
  · rw [hn]
    exact runOp_stop (by rw [hu, Access.andThen_stop])

/-- A conditional instruction: its handler with the extra ticks, or an advance (30 R129, 45 R270). -/
theorem runOp_whenTaken (cc : Cond) (len ticks extra : Nat) (handler : State → Access Unit) (s : State) :
    runOp len ticks (whenTaken cc extra handler) s =
      if specCond cc s.cpu.f then runOp len (ticks + extra) handler s else .next (s.afterCpu len ticks id) := by
  have hcond : condHolds cc (s.advanced len).cpu.flags = specCond cc s.cpu.f := condHolds_flags_eq_specCond cc _
  split
  · next h =>
    rw [← runOp_addTicks]
    exact runOp_congr (if_pos (hcond.trans h))
  · next h => exact runOp_ok (u := s.advanced len) (if_neg (hcond ▸ h))

theorem runOp_jumpTo (len : Nat) (target : Word) (ticks : Nat) (s : State) :
    runOp len ticks (jumpTo target) s = .next (s.onCpu fun c => { c with pc := target, ticks := c.ticks + ticks }) :=
  (runOp_cpuOnly len ticks (fun c => c.setPc target) s).trans (by simp only [Cpu.setPc, Cpu.addTicks])

theorem runOp_jumpRelative (len : Nat) (e8 : Byte) (ticks : Nat) (s : State) :
    runOp len ticks (jumpRelative e8) s = runOp len ticks (jumpTo (s.cpu.pc + BitVec.ofNat 16 len + sext16 e8)) s :=
  runOp_congr rfl

/-- Settles O20: a conditional jump is its two cases (`runOp_whenTaken`), a relative jump is one to an address
(`runOp_jumpRelative`), and the displacement is signed (`sext16_eq_ofInt_signed8`). -/
theorem jumpsAndRelativeJumps : Obligations.JumpsAndRelativeJumps := by
  simp only [Obligations.JumpsAndRelativeJumps, ← sext16_eq_ofInt_signed8]
  refine fun s => ⟨fun n16 => runOp_jumpTo 3 n16 16 s, runOp_jumpTo 1 s.cpu.hl 4 s, fun e8 => ?_, fun cc n16 => ?_,
    fun cc e8 => ?_⟩
  · exact (runOp_jumpRelative 2 e8 12 s).trans (runOp_jumpTo 2 _ 12 s)
  · rw [exec_jpCc, jumpIf, runOp_whenTaken, runOp_jumpTo]
    rfl
  · rw [exec_jrCc, jumpRelativeIf, runOp_whenTaken, runOp_jumpRelative, runOp_jumpTo]
    rfl

/-! ### Calls and restarts (45 R276, R277, R281) -/

/-- A push whose two stores are ready goes through: two writes, high byte first (00 R10). -/
theorem push16_of_storeReady {v : Word} {s : State} (hhi : s.storeReady (s.cpu.sp - 1) (hiByte v) = true)
    (hlo : s.storeReady (s.cpu.sp - 2) (loByte v) = true) :
    ∃ u w, writeByte (s.cpu.sp - 1) (hiByte v) (s.onCpu fun c => c.setSp (c.sp - 1)) = .ok () u ∧
      writeByte (s.cpu.sp - 2) (loByte v) (u.onCpu fun c => c.setSp (s.cpu.sp - 2)) = .ok () w ∧
      push16 v s = .ok () w := by
  obtain ⟨u, hu⟩ := writeByte_of_storeReady (s := s.onCpu fun c => c.setSp (c.sp - 1)) hhi
  obtain ⟨w, hw⟩ := writeByte_of_storeReady (s := u.onCpu fun c => c.setSp (s.cpu.sp - 2))
    ((State.storeReady_after_write hu).trans hlo)
  exact ⟨u, w, hu, hw, (push16_of_ok hu).trans hw⟩

/-- The answer of an instruction that pushes the address of the following instruction and goes to its target: completed
where both stores are ready, stopped at the write that stops. -/
def CallsTo (x : Answer) (s : State) (len : Nat) (target : Word) (ticks : Nat) : Prop :=
  let ret := s.cpu.pc + BitVec.ofNat 16 len
  let first := writeByte (s.cpu.sp - 1) (hiByte ret) ((s.advanced len).onCpu fun c => c.setSp (s.cpu.sp - 1))
  let second (u : State) := writeByte (s.cpu.sp - 2) (loByte ret) (u.onCpu fun c => c.setSp (s.cpu.sp - 2))
  (s.storeReady (s.cpu.sp - 1) (hiByte ret) = true → s.storeReady (s.cpu.sp - 2) (loByte ret) = true →
    ∃ u v, first = .ok () u ∧ second u = .ok () v ∧
      x = .next (v.onCpu fun c => { c with pc := target, ticks := c.ticks + ticks })) ∧
  (∀ info u, first = .stop info u → x = .next (u.raise info)) ∧
  (∀ u info v, first = .ok () u → second u = .stop info v → x = .next (v.raise info))

theorem callTo_of_ok {target : Word} {s u : State} (h : push16 s.cpu.pc s = .ok () u) :
    callTo target s = .ok () (u.onCpu fun c => c.setPc target) := by
  rw [callTo, h, Access.andThen_ok]
  rfl

theorem callTo_of_stop {target : Word} {s u : State} {info : Fault} (h : push16 s.cpu.pc s = .stop info u) :
    callTo target s = .stop info u := by
  rw [callTo, h, Access.andThen_stop]

theorem runOp_callTo (len : Nat) (target : Word) (ticks : Nat) (s : State) :
    CallsTo (runOp len ticks (callTo target) s) s len target ticks := by
  refine ⟨fun hhi hlo => ?_, fun info u hfirst => ?_, fun u info v hfirst hsecond => ?_⟩
  · obtain ⟨u, v, hfirst, hsecond, hpush⟩ := push16_of_storeReady (s := s.advanced len) hhi hlo
    exact ⟨u, v, hfirst, hsecond, runOp_ok (callTo_of_ok hpush)⟩
  · exact runOp_stop (callTo_of_stop (push16_of_stop (s := s.advanced len) hfirst))
  · exact runOp_stop (callTo_of_stop ((push16_of_ok (s := s.advanced len) hfirst).trans hsecond))

/-- Settles O21: calls and restarts are one push and a jump (`runOp_callTo`); a conditional call is that or an advance
(`runOp_whenTaken`). -/
theorem calls : Obligations.Calls := by
  intro s
  have conditional (cc : Cond) (n16 : Word) : exec (.callCc cc n16) s =
      if specCond cc s.cpu.f then runOp 3 24 (callTo n16) s else .next (s.afterCpu 3 12 id) :=
    (exec_callCc cc n16 s).trans (runOp_whenTaken cc 3 12 12 (callTo n16) s)
  have taken (cc : Cond) (n16 : Word) (h : specCond cc s.cpu.f = true) :
      CallsTo (exec (.callCc cc n16) s) s 3 n16 24 := by
    rw [conditional, if_pos h]
    exact runOp_callTo 3 n16 24 s
  have restarts (y : Oct) : CallsTo (exec (.rst y) s) s 1 (BitVec.ofNat 16 (8 * y.toNat)) 16 := by
    rw [exec_rst, restart, Nat.mul_comm]
    exact runOp_callTo 1 _ 16 s
  refine ⟨fun n16 => runOp_callTo 3 n16 24 s, taken, fun cc n16 h => ?_, restarts⟩
  rw [conditional, if_neg (ne_true_of_eq_false h)]

/-! ### Returns (45 R278 to R280) -/

/-- Pop a word and change the CPU with it. -/
def popInto (f : Word → Cpu → Cpu) (s : State) : Access Unit :=
  (pop16 s).andThen fun v u => .ok () (u.onCpu (f v))

theorem popInto_of_ok {f : Word → Cpu → Cpu} {v : Word} {s u : State} (h : pop16 s = .ok v u) :
    popInto f s = .ok () (u.onCpu (f v)) := by
  rw [popInto, h, Access.andThen_ok]

theorem popInto_of_stop {f : Word → Cpu → Cpu} {s u : State} {info : Fault} (h : pop16 s = .stop info u) :
    popInto f s = .stop info u := by
  rw [popInto, h, Access.andThen_stop]

/-- The answer of a one-byte instruction that returns and changes the rest of the CPU by `g`: completed where both bytes
are backed, stopped at the one that is not (20 R62, R101). -/
structure ReturnsByPop (x : Answer) (s : State) (ticks : Nat) (g : Cpu → Cpu) : Prop where
  completes : s.backed s.cpu.sp = true → s.backed (s.cpu.sp + 1) = true →
    x = .next (((s.afterRead s.cpu.sp).afterRead (s.cpu.sp + 1)).onCpu fun c =>
      { g c with
        pc := wordOf ((s.afterRead s.cpu.sp).busValue (s.cpu.sp + 1)) (s.busValue s.cpu.sp)
        sp := c.sp + 2
        ticks := c.ticks + ticks })
  stopsLow : s.backed s.cpu.sp = false → x = .next ((s.advanced 1).raise (.invalidBankDispatch s.cpu.sp))
  stopsHigh : s.backed s.cpu.sp = true → s.backed (s.cpu.sp + 1) = false →
    x = .next ((((s.advanced 1).afterRead s.cpu.sp).onCpu fun c =>
      { c with sp := c.sp + 1 }).raise (.invalidBankDispatch (s.cpu.sp + 1)))

theorem runOp_popInto {ticks : Nat} {f : Word → Cpu → Cpu} {g : Cpu → Cpu}
    (hf : ∀ v c pc, (f v ((c.setPc pc).setSp (c.sp + 2))).addTicks ticks =
      { g c with pc := v, sp := c.sp + 2, ticks := c.ticks + ticks }) (s : State) :
    ReturnsByPop (runOp 1 ticks (popInto f) s) s ticks g where
  completes h0 h1 := by
    have hpop := pop16_backed (s := s.advanced 1) h0 h1
    simp only [State.advanced, State.onCpu_cpu, Cpu.setPc_sp, State.afterRead_onCpu, State.busValue_onCpu] at hpop
    simp only [runOp_ok (popInto_of_ok hpop), State.onCpu_onCpu, Cpu.setPc_sp, hf]
  stopsLow h0 := runOp_stop (popInto_of_stop (pop16_unbacked_low (s := s.advanced 1) h0))
  stopsHigh h0 h1 := runOp_stop (popInto_of_stop (pop16_unbacked_high (s := s.advanced 1) h0 h1))

theorem runOp_returnToCaller (ticks : Nat) (s : State) :
    ReturnsByPop (runOp 1 ticks returnToCaller s) s ticks fun c => c :=
  runOp_popInto (f := fun v c => c.setPc v) (fun _ _ _ => by simp only [Cpu.setPc, Cpu.setSp, Cpu.addTicks]) s

/-- A return from a handler also sets `IME` at once (45 R280). -/
theorem runOp_returnFromInterrupt (ticks : Nat) (s : State) :
    ReturnsByPop (runOp 1 ticks returnFromInterrupt s) s ticks fun c => { c with ime := true, eiPending := false } :=
  runOp_popInto (f := fun v c => { c with pc := v, ime := true, eiPending := false })
    (fun _ _ _ => by simp only [Cpu.setPc, Cpu.setSp, Cpu.addTicks]) s

/-- Settles O22: the returns are one pop into the CPU (`runOp_returnToCaller`, `runOp_returnFromInterrupt`); a
conditional return is that or an advance (`runOp_whenTaken`). -/
theorem returns : Obligations.Returns := by
  intro s
  have conditional (cc : Cond) : exec (.retCc cc) s =
      if specCond cc s.cpu.f then runOp 1 20 returnToCaller s else .next (s.afterCpu 1 8 id) :=
    (exec_retCc cc s).trans (runOp_whenTaken cc 1 8 12 returnToCaller s)
  have ret : ReturnsByPop (exec .ret s) s 16 fun c => c := runOp_returnToCaller 16 s
  have reti : ReturnsByPop (exec .reti s) s 16 fun c => { c with ime := true, eiPending := false } :=
    runOp_returnFromInterrupt 16 s
  have taken (cc : Cond) (h : specCond cc s.cpu.f = true) : ReturnsByPop (exec (.retCc cc) s) s 20 fun c => c := by
    rw [conditional, if_pos h]
    exact runOp_returnToCaller 20 s
  refine ⟨fun cc h => ?_, fun h0 h1 => ?_, ?_⟩
  · rw [conditional, if_neg (ne_true_of_eq_false h)]
  · exact ⟨ret.completes h0 h1, fun cc h => (taken cc h).completes h0 h1, reti.completes h0 h1⟩
  · rintro i (rfl | rfl | ⟨cc, h, rfl⟩)
    · exact ⟨ret.stopsLow, ret.stopsHigh⟩
    · exact ⟨reti.stopsLow, reti.stopsHigh⟩
    · exact ⟨(taken cc h).stopsLow, (taken cc h).stopsHigh⟩

end Sys2Proof.Machine
end

section
/-! The system instructions, and the steps that stop the run in the fetch or at an opcode without a handler (46 R290 to
R296, 60 R301, R302). -/
namespace Sys2Proof.Machine

/-! ### The system instructions (46 R290 to R294) -/

/-- `EI` is a change of the CPU, by the parameter `EI_DELAY` (46 R294). -/
theorem exec_ei (s : State) : exec .ei s = runOp 1 4 (cpuOnly (Cpu.enableInterrupts s.cfg.eiDelay)) s := rfl

theorem apartFromPc_enableInterrupts (delay : Bool) : ApartFromPc (Cpu.enableInterrupts delay) := by
  intro c pc ticks
  cases hime : c.ime with
  | true => rw [Cpu.enableInterrupts_set delay hime, Cpu.enableInterrupts_set delay (c := c.setPc pc) hime]; rfl
  | false =>
    rw [Cpu.enableInterrupts_clear delay hime, Cpu.enableInterrupts_clear delay (c := c.setPc pc) hime]
    cases delay <;> rfl

/-- `EI` advances, with the enable that `Cpu.enableInterrupts` says. -/
theorem exec_ei_afterCpu {s : State} {f : Cpu → Cpu} (h : s.cpu.enableInterrupts s.cfg.eiDelay = f s.cpu) :
    exec .ei s = .next (s.afterCpu 1 4 f) := by
  rw [exec_ei, runOp_cpuOnly_afterCpu (apartFromPc_enableInterrupts _), State.afterCpu, State.onCpu, h]
  rfl

/-- Settles O23: all but `EI` are a change of the CPU apart from `PC` and the ticks (`runOp_cpuOnly_afterCpu`); `EI` is
so in each of its three cases (`exec_ei_afterCpu`). -/
theorem systemInstructions : Obligations.SystemInstructions := by
  intro s
  refine ⟨?nop, ?halt, fun n8 => ?stop, ?di, fun hime => ?set, fun hime hdelay => ?late, fun hime hdelay => ?atOnce⟩
  case nop => exact runOp_cpuOnly_afterCpu (fun _ _ _ => rfl) 1 4 s
  case halt => exact runOp_cpuOnly_afterCpu (fun _ _ _ => rfl) 1 4 s
  case stop => exact runOp_cpuOnly_afterCpu (fun _ _ _ => rfl) 2 4 s
  case di => exact runOp_cpuOnly_afterCpu (fun _ _ _ => rfl) 1 4 s
  case set => exact exec_ei_afterCpu (Cpu.enableInterrupts_set _ hime)
  case late => exact exec_ei_afterCpu (by rw [Cpu.enableInterrupts_clear _ hime, hdelay]; rfl)
  case atOnce => exact exec_ei_afterCpu (by rw [Cpu.enableInterrupts_clear _ hime, hdelay]; rfl)

/-! ### The fetch (30 R121) -/

/-- An opcode of one byte is the whole instruction: its fetch is one read. -/
theorem fetch_of_one_byte {s : State} (hb : s.backed s.cpu.pc = true) (h : opLength (s.busValue s.cpu.pc) = 1) :
    fetch s = .ok (decodeOp (s.busValue s.cpu.pc) 0 0) (s.afterRead s.cpu.pc) := by
  simp only [fetch, readByte_backed hb, Access.andThen_ok, h]

theorem fetch_unbacked {s : State} (hb : s.backed s.cpu.pc = false) :
    fetch s = .stop (.invalidBankDispatch s.cpu.pc) s := by
  rw [fetch, readByte_unbacked hb, Access.andThen_stop]

theorem opLength_illegalByte (op : IllegalOp) : opLength op.byte = 1 := by
  rw [← length_encode_decodeOp op.byte 0 0, decodeOp_illegalByte, encode_illegal, List.length_singleton]

/-- 46 R296: only the opcode is read, and the run stops at it. -/
theorem executeNext_illegal {op : IllegalOp} {s : State} (hb : s.backed s.cpu.pc = true)
    (hop : s.busValue s.cpu.pc = op.byte) :
    executeNext s = .next ((s.afterRead s.cpu.pc).raise (.unimplementedInstruction op.byte s.cpu.pc)) := by
  have hf : fetch s = .ok (.illegal op) (s.afterRead s.cpu.pc) := by
    rw [fetch_of_one_byte hb (by rw [hop, opLength_illegalByte]), hop, decodeOp_illegalByte]
  simp only [executeNext, hf, exec_illegal, raiseUnimplemented, State.afterRead_cpu]

/-- 20 R101, 60 R302: a fetch from an unbacked address stops the run before an instruction is known. -/
theorem executeNext_unbacked {s : State} (hb : s.backed s.cpu.pc = false) :
    executeNext s = .next (s.raise (.invalidBankDispatch s.cpu.pc)) := by
  simp only [executeNext, fetch_unbacked hb]

/-! ### The step of a running machine (60 R320) -/

@[simp] theorem Cpu.consumeEi_pc (c : Cpu) : c.consumeEi.pc = c.pc := by
  unfold Cpu.consumeEi; split <;> rfl

/-- With no move of the host, a running machine's step is that of its CPU. -/
theorem step_running {s : State} (hplan : s.hostPlan = []) (hrun : s.cpu.runState = .running) :
    step s = stepRunning s := by
  simp only [step, hostTurn, hplan, onNext, machineStep, hrun]

/-- A stop while the instruction is fetched or executed ends the step: no interrupt test, no synchronization
(60 R300). -/
theorem stepRunning_of_raise {s u : State} {info : Fault}
    (h : executeNext (s.onCpu Cpu.consumeEi) = .next (u.raise info)) : stepRunning s = .next (u.raise info) := by
  rw [stepRunning, h]
  exact afterInstruction_faulted (s := u.raise info) rfl

/-- Settles O6: the stop is the instruction's (`executeNext_illegal`) or the fetch's (`executeNext_unbacked`), after
`EI`'s delayed effect, and it ends the step (`stepRunning_of_raise`). -/
theorem stopsAtFetch : Obligations.StopsAtFetch := by
  have hpc (s : State) : (s.onCpu Cpu.consumeEi).cpu.pc = s.cpu.pc := Cpu.consumeEi_pc s.cpu
  refine ⟨exec_illegal, fun op s hplan hrun hb hop => ?illegal, fun s hplan hrun hb => ?unbacked⟩
  case illegal =>
    have hx := executeNext_illegal (op := op) (s := s.onCpu Cpu.consumeEi) (by rwa [hpc]) (by rwa [hpc])
    rw [step_running hplan hrun, stepRunning_of_raise hx, hpc, State.afterRead_onCpu]
    simp only [State.raise, State.onCpu, State.afterRead_cpu]
  case unbacked =>
    have hx := executeNext_unbacked (s := s.onCpu Cpu.consumeEi) (by rwa [hpc])
    rw [step_running hplan hrun, stepRunning_of_raise hx, hpc]
    rfl

end Sys2Proof.Machine
end

section
/-! The tick counts of the devices and of the CPU, kept by every step (60 R323). -/
namespace Sys2Proof.Machine

/-! ### The counts after a synchronization -/

/-- The synchronization changes what a device may change (60 R323). -/
theorem State.deviceChange_syncDevices (s : State) : s.DeviceChange s.syncDevices :=
  have htimer := (s.syncTimer_change s.cpu.ticks).1.toDeviceChange
  have hvideo := ((s.syncTimer s.cpu.ticks).syncVideo_change s.cpu.ticks).1.1
  have haudio := (((s.syncTimer s.cpu.ticks).syncVideo s.cpu.ticks).syncAudio_change s.cpu.ticks).1.deviceChange
  (htimer.trans hvideo).trans haudio

/-- A synchronization from counts that are not ahead puts them at the CPU's (60 R323). -/
theorem State.syncDevices_ticks {s : State} (ht : s.timer.localTicks ≤ s.cpu.ticks)
    (hv : s.video.localTicks ≤ s.cpu.ticks) (ha : s.audio.localTicks ≤ s.cpu.ticks) :
    s.syncDevices.timer.localTicks = s.cpu.ticks ∧ s.syncDevices.video.localTicks = s.cpu.ticks ∧
      s.syncDevices.audio.localTicks = s.cpu.ticks := by
  obtain ⟨htimer, htimerTicks⟩ := s.syncTimer_change s.cpu.ticks
  obtain ⟨⟨-, hvideoTimer, hvideoAudio⟩, hvideoTicks⟩ := (s.syncTimer s.cpu.ticks).syncVideo_change s.cpu.ticks
  obtain ⟨haudio, haudioTicks⟩ := ((s.syncTimer s.cpu.ticks).syncVideo s.cpu.ticks).syncAudio_change s.cpu.ticks
  obtain ⟨haudioTimer, haudioVideo⟩ := haudio.others
  refine ⟨?_, ?_, ?_⟩
  · exact (congrArg _ (haudioTimer.trans hvideoTimer)).trans (htimerTicks ht)
  · exact (congrArg _ haudioVideo).trans (hvideoTicks (by rwa [htimer.video]))
  · exact haudioTicks (by rwa [hvideoAudio, htimer.audio])

/-! ### Not ahead of the CPU -/

/-- The devices' counts are equal and not ahead of the CPU's: what holds also between an instruction and the
synchronization after it. -/
def State.TicksBehind (s : State) : Prop :=
  s.timer.localTicks = s.video.localTicks ∧ s.video.localTicks = s.audio.localTicks ∧
    s.audio.localTicks ≤ s.cpu.ticks

theorem State.TicksBehind.sync {s : State} (h : s.TicksBehind) : s.syncDevices.TicksInv := by
  obtain ⟨htv, hva, hle⟩ := h
  obtain ⟨ht, hv, ha⟩ := s.syncDevices_ticks (by omega) (by omega) hle
  rw [← s.deviceChange_syncDevices.cpu] at ht hv ha
  exact ⟨ht.trans hv.symm, hv.trans ha.symm, ha.le, fun _ => ha⟩

theorem State.TicksInv.behind {s : State} (h : s.TicksInv) : s.TicksBehind := by
  obtain ⟨htv, hva, hle, -⟩ := h
  exact ⟨htv, hva, hle⟩

/-- In a run that has stopped nothing more is asked than equal counts not ahead of the CPU's. -/
theorem State.TicksBehind.ofFaulted {s : State} (h : s.TicksBehind) (hf : s.isFaulted = true) : s.TicksInv := by
  obtain ⟨htv, hva, hle⟩ := h
  exact ⟨htv, hva, hle, fun hn => by simp [hf] at hn⟩

theorem State.TicksBehind.busChange {s t : State} (h : s.TicksBehind) (k : s.BusChange t) : t.TicksBehind := by
  unfold State.TicksBehind
  rwa [k.timerTicks, k.video, k.audioTicks, k.cpu]

theorem stepKept_ticksBehind : StepKept State.TicksBehind where
  cpu _ _ hc := fun ⟨htv, hva, hle⟩ => ⟨htv, hva, hle.trans hc.ticks⟩
  read s a h := by rw [State.afterRead_eq]; exact h
  store s a v _ h := h.busChange (s.busChange_busStore a v)
  dmaByte _ _ _ _ h := h
  dmaRegister _ _ h := h
  stop _ _ h := h
  irq _ _ h := h
  sync _ h := h.sync.behind
  plan _ _ h := h
  booted _ _ _ _ _ := ⟨rfl, rfl, le_refl _⟩
  buttons _ _ h := h
  ring _ _ h := h
  dirty _ _ h := h

/-! ### The step -/

/-- A move of the host keeps the counts; a boot puts all of them to zero (60 R390, 70 R402). -/
theorem State.TicksInv.hostMove {m : HostMove} {s t : State} (h : s.TicksInv) (hn : hostMove m s = .next t) :
    t.TicksInv := by
  cases m with
  | boot image =>
    simp only [Machine.hostMove, State.boot] at hn
    split at hn
    · split at hn <;> cases hn <;> exact ⟨rfl, rfl, le_refl _, fun _ => rfl⟩
    · cases hn
  | setButton name pressed =>
    cases hn
    split
    · exact h
    · unfold State.setButton State.requestIf; dsimp only; split <;> exact h
  | resumeFromStop =>
    cases hn
    unfold State.resumeFromStop
    split
    · next hr =>
      obtain ⟨htv, hva, hle, heq⟩ := h
      exact ⟨htv, hva, hle, fun _ => heq (by simp [State.isFaulted, hr])⟩
    all_goals exact h
  | drainSamples n => cases hn; split <;> exact h
  | save success =>
    cases hn
    split
    · exact h
    · unfold State.save; split <;> exact h

theorem State.TicksInv.hostMoves {moves : List HostMove} {s t : State} (h : s.TicksInv)
    (hn : hostMoves moves s = .next t) : t.TicksInv := by
  induction moves generalizing s with
  | nil => cases hn; exact h
  | cons m rest ih =>
    obtain ⟨u, hm, hr⟩ := onNext_eq_next hn
    exact ih (h.hostMove hm) hr

theorem State.TicksInv.hostTurn {s t : State} (h : s.TicksInv) (hn : hostTurn s = .next t) : t.TicksInv := by
  unfold Machine.hostTurn at hn
  split at hn
  · cases hn; exact h
  · next rest _ => exact State.TicksInv.hostMoves (s := { s with hostPlan := rest }) h hn

/-- The test is followed by a synchronization, unless its dispatch stops the run (60 R305, R320). -/
theorem State.TicksBehind.testAndSync {s t : State} (h : s.TicksBehind) (hn : testAndSync s = .next t) :
    t.TicksInv := by
  have hkept := stepKept_ticksBehind.testInterrupts stepKept_ticksBehind.irq h
  cases ht : testInterrupts s with
  | ok v u =>
    rw [ht] at hkept
    rw [testAndSync_ok ht] at hn
    cases hn
    exact State.TicksBehind.sync (s := u) hkept
  | stop info u =>
    rw [ht] at hkept
    rw [testAndSync_stop ht] at hn
    cases hn
    exact State.TicksBehind.ofFaulted (s := u.raise info) hkept rfl

/-- After an instruction the run has stopped, or the devices are synchronized (60 R320). -/
theorem State.TicksBehind.afterInstruction {s t : State} (h : s.TicksBehind) (hn : afterInstruction s = .next t) :
    t.TicksInv := by
  unfold Machine.afterInstruction at hn
  split at hn
  · next hr => cases hn; exact h.ofFaulted (by simp [State.isFaulted, hr])
  · cases hn; exact h.sync
  all_goals exact h.testAndSync hn

theorem cpuStep_consumeEi (c : Cpu) : CpuStep c c.consumeEi := by
  unfold Cpu.consumeEi; split <;> exact .same rfl (le_refl _) rfl

theorem State.TicksInv.machineStep {s t : State} (h : s.TicksInv) (hn : machineStep s = .next t) : t.TicksInv := by
  have k := stepKept_ticksBehind
  unfold Machine.machineStep at hn
  split at hn
  case h_1 =>
    obtain ⟨u, hx, ha⟩ := onNext_eq_next hn
    have hs : (s.onCpu Cpu.consumeEi).TicksBehind := k.onCpu (cpuStep_consumeEi s.cpu) h.behind
    exact State.TicksBehind.afterInstruction (k.executeNext hs hx) ha
  case h_2 =>
    unfold stepHalted at hn
    split at hn
    · exact State.TicksBehind.testAndSync (k.onCpu ⟨id, le_refl _, fun _ he => by cases he⟩ h.behind) hn
    · cases hn; exact State.TicksBehind.sync (k.addTicks _ h.behind)
  case h_3 => cases hn; exact h
  case h_4 => cases hn

/-- Settles O60: an instruction leaves the devices behind the CPU at most (`stepKept_ticksBehind`), and a step that does
not stop the run ends with a synchronization (`State.TicksBehind.sync`) or leaves the counts alone. -/
theorem stepKeepsTickCounts : Obligations.StepKeepsTickCounts := fun _ _ h hn => by
  obtain ⟨u, hh, hm⟩ := onNext_eq_next hn
  exact (h.hostTurn hh).machineStep hm

end Sys2Proof.Machine
end

section
/-! What each device does, said once: a predicate kept by the few things one device does is kept by its tick
(`TimerKept`, `VideoKept`, `AudioKept`). So no device withdraws an interrupt request (60 R317). -/
namespace Sys2Proof.Machine

/-! ### The timer (60 R330 to R332) -/

/-- A predicate kept by each of the few things the timer does. -/
structure TimerKept (Q : State → Prop) : Prop where
  div : ∀ s v, Q s → Q (s.setIo ioDIV v)
  tima : ∀ s v, Q s → Q (s.setIo ioTIMA v)
  request : ∀ s, Q s → Q (s.request .timer)
  own : ∀ s x, Q s → Q { s with timer := x }

theorem TimerKept.timerStep {Q : State → Prop} (k : TimerKept Q) {s : State} (h : Q s) : Q s.timerStep := by
  have hdivider {u : State} (hu : Q u) : Q u.dividerTick := by
    unfold State.dividerTick; dsimp only; split
    · exact k.own _ _ (k.div u _ hu)
    · exact k.own u _ hu
  have hincrement {u : State} (hu : Q u) : Q u.timaIncrement := by
    unfold State.timaIncrement; split
    · exact k.request _ (k.tima u _ hu)
    · exact k.tima u _ hu
  have hcounter {u : State} (hu : Q u) : Q u.counterTick := by
    unfold State.counterTick; split
    · split
      · exact hincrement (k.own u _ hu)
      · exact k.own u _ hu
    · exact hu
  exact hcounter (hdivider (k.own s _ h))

/-! ### The video unit (60 R340 to R355) -/

/-- A predicate kept by each of the few things the video unit does. -/
structure VideoKept (Q : State → Prop) : Prop where
  ly : ∀ s v, Q s → Q (s.setIo ioLY v)
  stat : ∀ s v, Q s → Q (s.setIo ioSTAT v)
  request : ∀ s i, Q s → Q (s.request i)
  frame : ∀ s n v, Q s → Q (s.setCell .framebuffer n v)
  own : ∀ s x, Q s → Q { s with video := x }

section
variable {Q : State → Prop} (k : VideoKept Q) {s : State}
include k

theorem VideoKept.requestIf (b : Bool) (i : IrqLine) (h : Q s) : Q (s.requestIf b i) := by
  unfold State.requestIf; split
  · exact k.request s i h
  · exact h

theorem VideoKept.setMode (m : VideoMode) (h : Q s) : Q (s.setMode m) := k.stat _ _ (k.own s _ h)

theorem VideoKept.enterMode (m : VideoMode) (b : Nat) (h : Q s) : Q (s.enterMode m b) :=
  k.requestIf _ _ (k.setMode m h)

theorem VideoKept.enterVblank (h : Q s) : Q s.enterVblank :=
  k.requestIf _ _ (k.own _ _ (k.request _ .vblank (k.setMode .vblank h)))

theorem VideoKept.setLy (v : Byte) (h : Q s) : Q (s.setLy v) := by
  unfold State.setLy; dsimp only; split
  · exact k.requestIf _ _ (k.stat _ _ (k.ly s v h))
  · exact k.stat _ _ (k.ly s v h)

theorem VideoKept.renderLine (ly : Nat) (h : Q s) : Q (s.renderLine ly) := by
  have hstore (sprites : List Sprite) (count : Nat) : Q (s.storePixels sprites ly count) := by
    induction count with
    | zero => exact h
    | succ count ih => exact k.frame _ _ _ ih
  unfold State.renderLine; split
  · exact hstore _ _
  · exact h

theorem VideoKept.videoStep (h : Q s) : Q s.videoStep := by
  have hclear {u : State} (hu : Q u) : Q u.clearModeTicks := k.own u _ hu
  have hcount := k.own s { s.video with localTicks := s.video.localTicks + 1, modeTicks := s.video.modeTicks + 1 } h
  unfold State.videoStep; dsimp only; split
  · unfold State.oamSearchTick; dsimp only; split
    · exact k.renderLine _ (k.setMode _ (hclear hcount))
    · exact hcount
  · unfold State.transferTick; split
    · exact k.enterMode _ _ (hclear hcount)
    · exact hcount
  · unfold State.hblankTick; dsimp only; split
    · split
      · exact k.enterVblank (k.setLy _ (hclear hcount))
      · exact k.enterMode _ _ (k.setLy _ (hclear hcount))
    · exact hcount
  · unfold State.vblankTick; split
    · exact k.enterMode _ _ (k.setLy _ (hclear hcount))
    · split
      · exact k.setLy _ hcount
      · exact hcount

end

/-! ### The audio unit (60 R360 to R369) -/

/-- A predicate kept by each of the few things the audio unit does in a tick: a channel's clocks, which leave its enable
flag and stay in the ranges of 10 R37; the silencing of a channel; the sweep's new frequency; its other fields. -/
structure AudioKept (Q : State → Prop) : Prop where
  clock : ∀ s c ch, ch.enabled = (s.chan c).enabled → ((s.chan c).inRange → ch.inRange) → Q s → Q (s.setChan c ch)
  disable : ∀ s c, Q s → Q (s.disable c)
  nr13 : ∀ s v, Q s → Q (s.setIo ioNR13 v)
  nr14 : ∀ s v, Q s → Q (s.setIo ioNR14 v)
  own : ∀ s a, a.ch1 = s.audio.ch1 → a.ch2 = s.audio.ch2 → Q s → Q { s with audio := a }

/-- The envelope stays between 0 and 15 (60 R363). -/
theorem envelopeVolume_le {up : Bool} {volume : Nat} (h : volume ≤ 15) : envelopeVolume up volume ≤ 15 := by
  unfold envelopeVolume; split_ifs <;> omega

section
variable {Q : State → Prop} (k : AudioKept Q) {s : State}
include k

theorem AudioKept.waveClock (c : Chan) (h : Q s) : Q (s.waveClock c) := by
  unfold State.waveClock; dsimp only; split <;> exact k.clock s c _ rfl id h

theorem AudioKept.lengthClock (c : Chan) (h : Q s) : Q (s.lengthClock c) := by
  unfold State.lengthClock; dsimp only; split
  · have hcount : Q (s.setChan c { s.chan c with length := (s.chan c).length - 1 }) :=
      k.clock s c _ rfl (fun ⟨hv, hl⟩ => ⟨hv, (Nat.sub_le _ _).trans hl⟩) h
    split
    · exact k.disable _ c hcount
    · exact hcount
  · exact h

theorem AudioKept.envelopeClock (c : Chan) (h : Q s) : Q (s.envelopeClock c) := by
  unfold State.envelopeClock; dsimp only; split
  · exact h
  · split
    · exact k.clock s c _ rfl (fun ⟨hv, hl⟩ => ⟨envelopeVolume_le hv, hl⟩) h
    · exact k.clock s c _ rfl id h

theorem AudioKept.sweepCheck (h : Q s) : Q s.sweepCheck := by
  unfold State.sweepCheck; split
  · exact k.disable s .one h
  · exact h

theorem AudioKept.sweepClock (h : Q s) : Q s.sweepClock := by
  have hstore {u : State} (new : Nat) (hu : Q u) : Q (u.storeSweep new) :=
    k.nr14 _ _ (k.nr13 _ _ (k.own u _ rfl rfl hu))
  have hexpire {u : State} (hu : Q u) : Q u.sweepExpire := by
    have hreload := k.own u { u.audio with sweepTimer := u.sweepReload } rfl rfl hu
    unfold State.sweepExpire; dsimp only; split
    · split
      · exact k.sweepCheck (hstore _ (k.sweepCheck hreload))
      · exact k.sweepCheck hreload
    · exact hreload
  have hcount := k.own s { s.audio with sweepTimer := s.audio.sweepTimer - 1 } rfl rfl h
  unfold State.sweepClock; dsimp only; split
  · exact hexpire hcount
  · exact hcount

theorem AudioKept.frameStep (fs : Fin 8) (h : Q s) : Q (s.frameStep fs) := by
  have hlength : Q ((s.lengthClock .one).lengthClock .two) := k.lengthClock _ (k.lengthClock _ h)
  unfold State.frameStep
  split
  · exact hlength
  · exact hlength
  · exact k.sweepClock hlength
  · exact k.sweepClock hlength
  · exact k.envelopeClock _ (k.envelopeClock _ h)
  all_goals exact h

theorem AudioKept.audioStep (h : Q s) : Q s.audioStep := by
  have hframe {u : State} (hu : Q u) : Q u.frameClock := by
    unfold State.frameClock; dsimp only; split
    · exact k.own _ _ rfl rfl (k.frameStep _ (k.own u _ rfl rfl hu))
    · exact k.own u _ rfl rfl hu
  have hsample {u : State} (hu : Q u) : Q u.sampleClock := by
    unfold State.sampleClock; split
    · exact hu
    · split <;> exact k.own u _ rfl rfl hu
  exact hsample (hframe (k.waveClock _ (k.waveClock _ (k.own s _ rfl rfl h))))

end

/-! ### The synchronization -/

/-- A predicate kept by the ticks of the three devices is kept by their synchronization (60 R323). -/
theorem syncDevices_keeps {Q : State → Prop} (kt : TimerKept Q) (kv : ∀ s, Q s → Q s.videoStep) (ka : AudioKept Q)
    {s : State} (h : Q s) : Q s.syncDevices :=
  iterate_holds (fun _ hs => ka.audioStep hs) _ (iterate_holds kv _ (iterate_holds (fun _ hs => kt.timerStep hs) _ h))

/-! ### Requests are not withdrawn (60 R317) -/

theorem bit_or (v w : Byte) (i : Nat) : bit (v ||| w) i = (bit v i || bit w i) := BitVec.getLsbD_or
theorem bit_and (v w : Byte) (i : Nat) : bit (v &&& w) i = (bit v i && bit w i) := BitVec.getLsbD_and

theorem State.io_disable (s : State) (c : Chan) {n : Nat} (h : n ≠ 0x26) : (s.disable c).io n = s.io n := by
  rw [State.disable, State.io_mirrorEnables _ h, State.io_setChan]

/-- Every line requested in one state is requested in the other. -/
def State.RequestsKept (s t : State) : Prop := ∀ k, bit (s.io ioIF) k = true → bit (t.io ioIF) k = true

theorem State.RequestsKept.congr {s t u : State} (h : s.RequestsKept t) (he : u.io ioIF = t.io ioIF) :
    s.RequestsKept u := fun k hk => he ▸ h k hk

theorem State.RequestsKept.setIo {s t : State} (h : s.RequestsKept t) {n : Nat} (v : Byte) (hn : ioIF ≠ n) :
    s.RequestsKept (t.setIo n v) := h.congr (t.io_setIo_other v hn)

theorem State.RequestsKept.request {s t : State} (h : s.RequestsKept t) (i : IrqLine) :
    s.RequestsKept (t.request i) := by
  intro k hk
  rw [State.request, State.io_setIo_same, bit_or, h k hk, Bool.true_or]

theorem timerKept_requestsKept (s : State) : TimerKept s.RequestsKept where
  div _ v h := h.setIo v (by decide)
  tima _ v h := h.setIo v (by decide)
  request _ h := h.request .timer
  own _ _ h := h

theorem videoKept_requestsKept (s : State) : VideoKept s.RequestsKept where
  ly _ v h := h.setIo v (by decide)
  stat _ v h := h.setIo v (by decide)
  request _ i h := h.request i
  frame t n v h := h.congr (t.cell_setCell_other v (.inl (by decide)))
  own _ _ h := h

theorem audioKept_requestsKept (s : State) : AudioKept s.RequestsKept where
  clock t c ch _ _ h := h.congr (t.io_setChan c ch _)
  disable t c h := h.congr (t.io_disable c (by decide))
  nr13 _ v h := h.setIo v (by decide)
  nr14 _ v h := h.setIo v (by decide)
  own _ _ _ _ h := h

/-- Settles O42: the counts by `State.syncDevices_ticks`, the frame by `State.deviceChange_syncDevices`, the requests
because each device only adds to them. -/
theorem syncDevices : Obligations.SyncDevices := by
  intro s ht hv ha
  obtain ⟨htimer, hvideo, haudio⟩ := s.syncDevices_ticks ht hv ha
  have hc := s.deviceChange_syncDevices
  exact ⟨htimer, hvideo, haudio, hc.cpu, hc.cart, hc.mbc, hc.buttons, hc.cfg, hc.mem,
    syncDevices_keeps (timerKept_requestsKept s) (fun _ h => (videoKept_requestsKept s).videoStep h)
      (audioKept_requestsKept s) (s := s) fun _ hk => hk⟩

end Sys2Proof.Machine
end

section
/-! The invariants of the device-owned I/O bytes, kept by every step: NR52 and the channels' ranges (60 R369, 10 R37),
STAT and the scanline (60 R347, 10 R36). -/
namespace Sys2Proof.Machine

/-! ### The I/O page after boot (70 R404) -/

theorem Memory.read_writeAll_other {st : Store} {n : Nat} {cells : List (Nat × Byte)} (h : ∀ c ∈ cells, c.1 ≠ n)
    (m : Memory) : Memory.read st (Memory.writeAll st m cells) n = Memory.read st m n := by
  induction cells generalizing m with
  | nil => rfl
  | cons c rest ih =>
    rw [Memory.writeAll, ih (fun d hd => h d (List.mem_cons_of_mem _ hd)),
      Memory.read_write_other st m _ (h c (List.mem_cons_self ..)).symm]

/-- The I/O page's bytes do not depend on the rest of the state. -/
theorem State.io_congr {s t : State} (h : t.mem.io = s.mem.io) (n : Nat) : t.io n = s.io n := by
  have hread (m : Memory) : ∃ v, Memory.read .io m n = some v := by
    unfold Memory.read unlisted; split <;> exact ⟨_, rfl⟩
  obtain ⟨v, hv⟩ := hread s.mem.io
  simp only [State.io, State.cell, Stores.get, h, hv]

/-- A byte that the configuration does not override has its reset value after boot (70 R404). -/
theorem State.booted_io {s : State} (image : CartImage) (mbc : Mbc) {n : Nat} (h : ∀ c ∈ s.cfg.ioReset, c.1 ≠ n)
    (hn : n ≠ ioLY) : (s.booted image mbc).io n = ioReset n := by
  have hread : Memory.read .io (configBootIo s.cfg) n = some (ioReset n) := by
    rw [configBootIo, Memory.read_write_other _ _ _ hn, Memory.read_writeAll_other h]; rfl
  simp only [State.io, State.cell, Stores.get, State.booted, Stores.boot, hread]

theorem State.booted_ly (s : State) (image : CartImage) (mbc : Mbc) : (s.booted image mbc).io ioLY = s.cfg.lyReset := by
  simp only [State.io, State.cell, Stores.get, State.booted, Stores.boot, configBootIo, Memory.read_write_same]

/-- A well-formed configuration overrides none of the device-owned bytes (log 24). -/
theorem Config.wellFormed_ioReset {c : Config} (h : c.wellFormed = true) {n : Nat} (hn : n ∈ [0x26, 0x41, 0x44]) :
    ∀ d ∈ c.ioReset, d.1 ≠ n := by
  rintro d hd rfl
  simp only [Config.wellFormed, Bool.and_eq_true, List.all_eq_true, Bool.not_eq_true', decide_eq_true_eq] at h
  obtain ⟨⟨⟨hio, -⟩, -⟩, -⟩ := h
  exact absurd (List.contains_iff_mem.mpr hn) (by rw [(hio d hd).2]; decide)

/-- A well-formed configuration starts the scanline inside V-blank (60 R340). -/
theorem Config.wellFormed_lyReset {c : Config} (h : c.wellFormed = true) :
    144 ≤ c.lyReset.toNat ∧ c.lyReset.toNat ≤ 153 := by
  simp only [Config.wellFormed, Bool.and_eq_true, decide_eq_true_eq] at h
  obtain ⟨⟨⟨-, hlow⟩, hhigh⟩, -⟩ := h
  exact ⟨hlow, hhigh⟩

/-! ### What a step keeps of the I/O bytes and the devices -/

/-- A predicate of the I/O bytes, the video mode and the two channels that the devices, the writes of the I/O page and a
boot keep. -/
structure IoKept (Q : State → Prop) : Prop where
  same : ∀ s t, (∀ n, t.io n = s.io n) → t.video.mode = s.video.mode → t.audio.ch1 = s.audio.ch1 →
    t.audio.ch2 = s.audio.ch2 → Q s → Q t
  plainIo : ∀ s n v, n ∉ [0x26, 0x41, 0x44] → Q s → Q (s.setIo n v)
  writeIo : ∀ s n v, n < 128 → Q s → Q (s.writeIo n v)
  sync : ∀ s, Q s → Q s.syncDevices
  booted : ∀ (s : State) image mbc, s.cfg.wellFormed = true → Q (s.booted image mbc)

/-- A write to a backed address outside the I/O page leaves the page and the channels (20 R63). -/
theorem State.busStore_outside_io {s : State} {a : Word} (v : Byte) (hb : s.backed a = true) (hr : regionOf a ≠ .io) :
    (s.busStore a v).mem.io = s.mem.io ∧ (s.busStore a v).audio = s.audio := by
  have hf := storeFrame_busStore v hb
  refine ⟨hf.ioPage (by simpa using hr), hf.audio ?_⟩
  rintro b hb' hm
  obtain rfl := List.mem_singleton.mp hb'
  simp only [List.mem_cons, List.not_mem_nil, or_false] at hm
  rcases hm with rfl | rfl | rfl | rfl <;> exact hr (by decide)

theorem IoKept.busStore {Q : State → Prop} (k : IoKept Q) {s : State} {a : Word} (v : Byte) (hb : s.backed a = true)
    (h : Q s) : Q (s.busStore a v) := by
  by_cases hr : regionOf a = .io
  · have ho := regionOf_offsetInside a
    rw [hr] at ho
    simp only [State.busStore, hr]
    exact k.writeIo s _ v ho h
  · obtain ⟨hio, haudio⟩ := State.busStore_outside_io v hb hr
    exact k.same s _ (State.io_congr hio) (by rw [(s.busChange_busStore a v).video]) (by rw [haudio]) (by rw [haudio]) h

theorem IoKept.stepKept {Q : State → Prop} (k : IoKept Q) : StepKept fun s => s.cfg.wellFormed = true ∧ Q s where
  cpu s _ _ h := ⟨h.1, k.same s _ (fun _ => rfl) rfl rfl rfl h.2⟩
  read s a h := by
    rw [State.afterRead_eq]; exact ⟨h.1, k.same s _ (fun _ => rfl) rfl rfl rfl h.2⟩
  store s a v hb h := ⟨by rw [(s.busChange_busStore a v).cfg]; exact h.1, k.busStore v hb h.2⟩
  dmaByte s n v _ h := ⟨h.1, k.same s _ (s.io_setOam n · v) rfl rfl rfl h.2⟩
  dmaRegister s v h := ⟨h.1, k.plainIo s _ v (by decide) h.2⟩
  stop s _ h := ⟨h.1, k.same s _ (fun _ => rfl) rfl rfl rfl h.2⟩
  irq s v h := ⟨h.1, k.plainIo s _ v (by decide) h.2⟩
  sync s h := ⟨by rw [s.deviceChange_syncDevices.cfg]; exact h.1, k.sync s h.2⟩
  plan s _ h := ⟨h.1, k.same s _ (fun _ => rfl) rfl rfl rfl h.2⟩
  booted s image mbc _ h := ⟨h.1, k.booted s image mbc h.1⟩
  buttons s _ h := ⟨h.1, k.same s _ (fun _ => rfl) rfl rfl rfl h.2⟩
  ring s _ h := ⟨h.1, k.same s _ (fun _ => rfl) rfl rfl rfl h.2⟩
  dirty s _ h := ⟨h.1, k.same s _ (fun _ => rfl) rfl rfl rfl h.2⟩

/-! ### NR52 and the channels (60 R369, 10 R37) -/

/-- What writing the enable flags into NR52 asks of the state before: bits 3:2 of NR52 zero, the channels in range. -/
def State.AudioRanges (s : State) : Prop := s.io ioNR52 &&& 0x0C = 0 ∧ s.audio.ch1.inRange ∧ s.audio.ch2.inRange

theorem State.AudioInv.ranges {s : State} (h : s.AudioInv) : s.AudioRanges := by
  obtain ⟨hmirror, h1, h2⟩ := h
  refine ⟨?_, h1, h2⟩
  have hlow : s.io ioNR52 &&& 0x0C = (s.io ioNR52 &&& 0x0F) &&& 0x0C := by rw [BitVec.and_assoc]; rfl
  rw [hlow, hmirror]
  cases s.audio.ch2.enabled <;> cases s.audio.ch1.enabled <;> rfl

theorem State.AudioRanges.setChan {s : State} (h : s.AudioRanges) {c : Chan} {ch : Channel} (hch : ch.inRange) :
    (s.setChan c ch).AudioRanges := by
  obtain ⟨hlow, h1, h2⟩ := h
  cases c
  · exact ⟨hlow, hch, h2⟩
  · exact ⟨hlow, h1, hch⟩

theorem State.AudioRanges.inRange {s : State} (h : s.AudioRanges) (c : Chan) : (s.chan c).inRange := by
  obtain ⟨-, h1, h2⟩ := h
  cases c <;> assumption

/-- 60 R369: NR52 shows the enable flags once they are written into it. -/
theorem State.AudioRanges.mirrorEnables {s : State} (h : s.AudioRanges) : s.mirrorEnables.AudioInv := by
  obtain ⟨hlow, h1, h2⟩ := h
  refine ⟨?_, h1, h2⟩
  rw [State.mirrorEnables, State.io_setIo_same, BitVec.and_or_distrib_right, BitVec.and_assoc]
  rw [show (0xFC &&& 0x0F : Byte) = 0x0C from rfl, hlow, State.setIo_audio]
  cases s.audio.ch2.enabled <;> cases s.audio.ch1.enabled <;> rfl

theorem State.AudioRanges.disable {s : State} (h : s.AudioRanges) (c : Chan) : (s.disable c).AudioInv :=
  (h.setChan (ch := { s.chan c with enabled := false }) (h.inRange c)).mirrorEnables

/-- 60 R366: a trigger sets the volume to a nibble, and reloads a length of 0 to 64. -/
theorem State.AudioRanges.triggerChannel {s : State} (h : s.AudioRanges) (c : Chan) :
    (s.triggerChannel c).AudioRanges := by
  refine h.setChan ⟨?_, ?_⟩
  · have := (s.io (nr c 2)).isLt
    dsimp only; omega
  · obtain ⟨-, hl⟩ := h.inRange c
    dsimp only; split
    · exact le_refl _
    · exact hl

theorem State.AudioRanges.trigger {s : State} (h : s.AudioRanges) (c : Chan) : (s.trigger c).AudioInv := by
  have hsweep {u : State} (hu : u.AudioRanges) : u.triggerSweep.AudioRanges := by
    unfold State.triggerSweep State.sweepCheck; dsimp only; split
    · split
      · exact (State.AudioRanges.disable (by exact hu) _).ranges
      · exact hu
    · exact hu
  cases c
  · exact (hsweep (h.triggerChannel .one)).mirrorEnables
  · exact (h.triggerChannel .two).mirrorEnables

theorem State.AudioInv.setIo {s : State} (h : s.AudioInv) {n : Nat} (v : Byte) (hn : 0x26 ≠ n) :
    (s.setIo n v).AudioInv := by
  unfold State.AudioInv
  rw [State.io_setIo_other s v hn]
  exact h

/-- A change of a channel that leaves its enable flag and its ranges. -/
theorem State.AudioInv.setChan {s : State} (h : s.AudioInv) {c : Chan} {ch : Channel}
    (he : ch.enabled = (s.chan c).enabled) (hr : (s.chan c).inRange → ch.inRange) : (s.setChan c ch).AudioInv := by
  refine ⟨?_, (h.ranges.setChan (hr (h.ranges.inRange c))).2⟩
  obtain ⟨hmirror, -, -⟩ := h
  rw [State.io_setChan, hmirror]
  cases c <;> simp only [State.chan] at he <;> simp only [State.setChan, he]

theorem timerKept_audioInv : TimerKept State.AudioInv where
  div _ v h := h.setIo v (by decide)
  tima _ v h := h.setIo v (by decide)
  request _ h := h.setIo _ (by decide)
  own _ _ h := h

theorem videoKept_audioInv : VideoKept State.AudioInv where
  ly _ v h := h.setIo v (by decide)
  stat _ v h := h.setIo v (by decide)
  request _ _ h := h.setIo _ (by decide)
  frame _ _ _ h := h
  own _ _ h := h

theorem audioKept_audioInv : AudioKept State.AudioInv where
  clock _ _ _ he hr h := h.setChan he hr
  disable _ c h := h.ranges.disable c
  nr13 _ v h := h.setIo v (by decide)
  nr14 _ v h := h.setIo v (by decide)
  own s a h1 h2 h := by
    unfold State.AudioInv at h ⊢
    rw [← h1, ← h2] at h
    exact h

/-- 20 R78: a length is loaded as 64 less a number of six bits. -/
theorem State.AudioInv.loadLength {s : State} (h : s.AudioInv) (c : Chan) (v : Byte) : (s.loadLength c v).AudioInv :=
  h.setChan rfl fun ⟨hv, _⟩ => ⟨hv, Nat.sub_le _ _⟩

/-- 20 R78, R79: the writes of the audio registers. -/
theorem State.AudioInv.writeIo {s : State} (h : s.AudioInv) (n : Nat) (v : Byte) : (s.writeIo n v).AudioInv := by
  unfold State.writeIo
  split
  · exact h.setIo _ (by decide)
  · exact (h.setIo v (by decide)).loadLength .one v
  · have h1 := h.setIo (n := ioNR14) v (by decide)
    split
    · exact h1.ranges.trigger .one
    · exact h1
  · exact (h.setIo v (by decide)).loadLength .two v
  · have h1 := h.setIo (n := ioNR24) v (by decide)
    split
    · exact h1.ranges.trigger .two
    · exact h1
  · refine ⟨?_, h.2⟩
    have hmask (v x : Byte) : (v &&& 0xF0 ||| x &&& 0x0F) &&& 0x0F = x &&& 0x0F := by
      rw [BitVec.and_or_distrib_right, BitVec.and_assoc, BitVec.and_assoc, BitVec.and_self,
        show (0xF0 &&& 0x0F : Byte) = 0#8 from rfl, BitVec.and_zero, BitVec.zero_or]
    rw [State.io_setIo_same, hmask]
    exact h.1
  · exact h.setIo _ (by decide)
  · exact h
  · next hn _ _ => exact h.setIo v fun he => hn he.symm

theorem ioKept_audioInv : IoKept State.AudioInv where
  same s t hio _ h1 h2 h := by unfold State.AudioInv; rwa [hio, h1, h2]
  plainIo _ _ v hn h := h.setIo v (by rintro rfl; exact hn (by decide))
  writeIo _ n v _ h := h.writeIo n v
  sync _ h := syncDevices_keeps timerKept_audioInv (fun _ hs => videoKept_audioInv.videoStep hs) audioKept_audioInv h
  booted s image mbc hw := by
    have hnr52 := State.booted_io image mbc (Config.wellFormed_ioReset hw (n := ioNR52) (by decide)) (by decide)
    refine ⟨?_, ?_, ?_⟩
    · rw [hnr52]; exact (by decide : ioReset ioNR52 &&& 0x0F = 0)
    · exact (by decide : Channel.reset.volume ≤ 15 ∧ Channel.reset.length ≤ 64)
    · exact (by decide : Channel.reset.volume ≤ 15 ∧ Channel.reset.length ≤ 64)

/-- Settles O59: the enable flags and NR52 change together in every write and tick (`ioKept_audioInv`). -/
theorem stepKeepsAudioState : Obligations.StepKeepsAudioState := fun _ _ hw h hn =>
  (ioKept_audioInv.stepKept.step ⟨hw, h⟩ hn).2

end Sys2Proof.Machine
end

section
/-! The composition of a scanline (60 R350 to R355): the framebuffer bytes it writes, pixel by pixel. -/
namespace Sys2Proof.Machine

/-! ### What a rendered line writes -/

theorem State.storePixels_eq (s : State) (sprites : List Sprite) (ly count : Nat) : s.storePixels sprites ly count =
    { s with mem := { s.mem with framebuffer := (s.storePixels sprites ly count).mem.framebuffer } } := by
  induction count with
  | zero => rfl
  | succ count ih => rw [State.storePixels, ih]; rfl

/-- The bytes of a line, and the others, after the first `count` of them are stored. -/
theorem State.cell_storePixels (s : State) (sprites : List Sprite) (ly count n : Nat) :
    (s.storePixels sprites ly count).cell .framebuffer n =
      if ly * 40 ≤ n ∧ n < ly * 40 + count then s.packedPixels sprites ly (n - ly * 40) else s.cell .framebuffer n := by
  induction count with
  | zero => rw [if_neg (by omega)]; rfl
  | succ count ih =>
    rw [State.storePixels]
    by_cases hn : n = ly * 40 + count
    · rw [if_pos (by omega), hn, State.cell_setCell_same, Nat.add_sub_cancel_left]
    · rw [State.cell_setCell_other _ _ (.inr hn), ih]
      exact if_congr (by omega) rfl rfl

theorem State.renderLine_eq (s : State) (ly : Nat) :
    s.renderLine ly = { s with mem := { s.mem with framebuffer := (s.renderLine ly).mem.framebuffer } } := by
  unfold State.renderLine; split
  · exact s.storePixels_eq _ _ _
  · rfl

theorem State.io_renderLine (s : State) (ly n : Nat) : (s.renderLine ly).io n = s.io n := by
  rw [State.renderLine_eq]; rfl

/-! ### Pixels (60 R351 to R355) -/

theorem paletteShade_lt (palette : Byte) (ci : Nat) : paletteShade palette ci < 4 := Nat.mod_lt _ (by decide)

theorem State.layerPixel_shade_lt (s : State) (ly x : Nat) : (s.layerPixel ly x).shade < 4 := by
  have hbackground : (s.background ly x).shade < 4 := by
    unfold State.background; dsimp only; split
    · exact paletteShade_lt _ _
    · decide
  unfold State.layerPixel; dsimp only; split
  · exact paletteShade_lt _ _
  · exact hbackground

theorem State.shade_lt (s : State) (sprites : List Sprite) (ly x : Nat) : s.shade sprites ly x < 4 := by
  unfold State.shade; dsimp only; split
  · split
    · exact paletteShade_lt _ _
    · exact s.layerPixel_shade_lt ly x
  · exact s.layerPixel_shade_lt ly x

/-- Each of the four pixels of a framebuffer byte is read back (60 R355). -/
theorem State.packedPixels_pixel (s : State) (sprites : List Sprite) (ly k : Nat) {j : Nat} (hj : j < 4) :
    (s.packedPixels sprites ly k).toNat / 4 ^ j % 4 = s.shade sprites ly (4 * k + j) := by
  have hshade (x : Nat) := s.shade_lt sprites ly x
  have h0 := hshade (4 * k)
  have h1 := hshade (4 * k + 1)
  have h2 := hshade (4 * k + 2)
  have h3 := hshade (4 * k + 3)
  rw [State.packedPixels, BitVec.toNat_ofNat]
  interval_cases j <;> norm_num <;> omega

/-- 60 R353: a selected entry is one of the table that covers the line. -/
theorem State.mem_selectedSprites {s : State} {ly : Nat} {o : Sprite} (h : o ∈ s.selectedSprites ly) :
    ∃ i, i < 40 ∧ o = s.sprite i ∧ o.covers s.spriteHeight ly = true := by
  unfold State.selectedSprites at h
  split at h
  · obtain ⟨hm, hcovers⟩ := List.mem_filter.mp (List.mem_of_mem_take h)
    obtain ⟨i, hi, rfl⟩ := List.mem_map.mp hm
    exact ⟨i, List.mem_range.mp hi, rfl, hcovers⟩
  · cases h

theorem State.length_selectedSprites_le (s : State) (ly : Nat) :
    (s.selectedSprites ly).length ≤ s.cfg.maxSpritesPerLine := by
  unfold State.selectedSprites; split
  · exact List.length_take_le _ _
  · exact Nat.zero_le _

/-- Settles O49: the line's 40 bytes (`State.cell_storePixels`), the pixels in them (`State.packedPixels_pixel`), the
sprites by the definition of the selection. -/
theorem renderedLine : Obligations.RenderedLine := by
  intro s ly hly
  have hline : s.renderLine ly = s.storePixels (s.selectedSprites ly) ly 40 := if_pos hly
  refine ⟨s.renderLine_eq ly, fun x hx => ?pixel, fun n hn => ?others, s.length_selectedSprites_le ly, fun h => ?off,
    fun o ho => ?sprite⟩
  case pixel =>
    have hbyte : (ly * 160 + x) / 4 = ly * 40 + x / 4 := by omega
    rw [hline, State.cell_storePixels, hbyte, if_pos (by omega), Nat.add_sub_cancel_left,
      State.packedPixels_pixel _ _ _ _ (Nat.mod_lt x (by decide)), Nat.div_add_mod]
  case others => rw [hline, State.cell_storePixels, if_neg (by omega)]
  case off => rw [State.selectedSprites, if_neg (by rw [h]; decide)]
  case sprite =>
    obtain ⟨i, hi, rfl, hcovers⟩ := State.mem_selectedSprites ho
    simp only [Sprite.covers, Bool.and_eq_true, decide_eq_true_eq] at hcovers
    exact ⟨i, hi, rfl, hcovers⟩

end Sys2Proof.Machine
end

section
/-! The video unit's mode cycle: what each of its operations writes (60 R342 to R349), the invariant of STAT and the
scanline (60 R347), and the ticks of one scanline (60 R341). -/
namespace Sys2Proof.Machine

/-! ### Requests -/

@[simp] theorem State.request_video (s : State) (i : IrqLine) : (s.request i).video = s.video := rfl

theorem State.io_request_other (s : State) (i : IrqLine) {n : Nat} (h : n ≠ 0x0F) : (s.request i).io n = s.io n :=
  s.io_setIo_other _ h

@[simp] theorem State.requestIf_video (s : State) (b : Bool) (i : IrqLine) : (s.requestIf b i).video = s.video :=
  (s.ioChange_requestIf b i).video

theorem State.io_requestIf_other (s : State) (b : Bool) (i : IrqLine) {n : Nat} (h : n ≠ 0x0F) :
    (s.requestIf b i).io n = s.io n := by
  unfold State.requestIf; split
  · exact s.io_request_other i h
  · rfl

theorem State.io_requestIf_if (s : State) (b : Bool) (i : IrqLine) :
    (s.requestIf b i).io 0x0F = if b then s.io 0x0F ||| i.mask else s.io 0x0F := by
  cases b
  · rfl
  · exact s.io_setIo_same _ _

/-! ### A mode entered (60 R342, R348) -/

/-- STAT with the code of a mode in its two low bits (60 R342). -/
def modeStat (stat : Byte) (m : VideoMode) : Byte := stat &&& 0xFC ||| m.code

theorem modeStat_low (stat : Byte) (m : VideoMode) : modeStat stat m &&& 0x03 = m.code := by
  revert stat; cases m <;> decide

/-- The enable bits of STAT are not the mode's. -/
theorem bit_modeStat (stat : Byte) (m : VideoMode) {b : Nat} (h : 2 ≤ b) (h8 : b < 8) :
    bit (modeStat stat m) b = bit stat b := by
  have hcode : bit m.code b = false := by cases m <;> interval_cases b <;> rfl
  have hmask : bit 0xFC b = true := by interval_cases b <;> rfl
  rw [modeStat, bit_or, bit_and, hcode, hmask, Bool.and_true, Bool.or_false]

@[simp] theorem State.setMode_video (s : State) (m : VideoMode) : (s.setMode m).video = { s.video with mode := m } :=
  rfl

theorem State.io_setMode_stat (s : State) (m : VideoMode) : (s.setMode m).io 0x41 = modeStat (s.io 0x41) m :=
  State.io_setIo_same _ _ _

theorem State.io_setMode_other (s : State) (m : VideoMode) {n : Nat} (h : n ≠ 0x41) : (s.setMode m).io n = s.io n :=
  State.io_setIo_other _ _ h

@[simp] theorem State.enterMode_video (s : State) (m : VideoMode) (b : Nat) :
    (s.enterMode m b).video = { s.video with mode := m } := State.requestIf_video _ _ _

theorem State.io_enterMode_stat (s : State) (m : VideoMode) (b : Nat) :
    (s.enterMode m b).io 0x41 = modeStat (s.io 0x41) m := by
  rw [State.enterMode, State.io_requestIf_other _ _ _ (by decide), State.io_setMode_stat]

theorem State.io_enterMode_if (s : State) (m : VideoMode) {b : Nat} (h : 2 ≤ b) (h8 : b < 8) :
    (s.enterMode m b).io 0x0F = if bit (s.io 0x41) b then s.io 0x0F ||| 0x02 else s.io 0x0F := by
  have hstat : (s.setMode m).io ioSTAT = modeStat (s.io 0x41) m := s.io_setMode_stat m
  have hif : (s.setMode m).io 0x0F = s.io 0x0F := s.io_setMode_other m (by decide)
  rw [State.enterMode, State.io_requestIf_if, hstat, hif, bit_modeStat _ _ h h8]
  rfl

theorem State.io_enterMode_other (s : State) (m : VideoMode) (b : Nat) {n : Nat} (h : n ≠ 0x41) (hif : n ≠ 0x0F) :
    (s.enterMode m b).io n = s.io n := by
  rw [State.enterMode, State.io_requestIf_other _ _ _ hif, State.io_setMode_other _ _ h]

/-- The entry of a mode changes the video unit's own fields and the I/O page. -/
theorem State.enterMode_eq (s : State) (m : VideoMode) (b : Nat) :
    s.enterMode m b =
      { s with video := (s.enterMode m b).video, mem := { s.mem with io := (s.enterMode m b).mem.io } } := by
  unfold State.enterMode State.requestIf; dsimp only; split <;> rfl

/-! ### The entry to V-blank (60 R344, R349) -/

@[simp] theorem State.enterVblank_video (s : State) : s.enterVblank.video =
    { s.video with mode := .vblank, notifications := s.video.notifications + 1 } := State.requestIf_video _ _ _

theorem State.io_enterVblank_stat (s : State) : s.enterVblank.io 0x41 = modeStat (s.io 0x41) .vblank := by
  rw [State.enterVblank, State.io_requestIf_other _ _ _ (by decide)]
  exact (State.io_request_other _ _ (by decide)).trans (s.io_setMode_stat _)

/-- V-blank requests its own line always, the LCD-status line by STAT bit 4. -/
theorem State.io_enterVblank_if (s : State) : s.enterVblank.io 0x0F =
    if bit (s.io 0x41) 4 then s.io 0x0F ||| 0x01 ||| 0x02 else s.io 0x0F ||| 0x01 := by
  have hstat : ((s.setMode .vblank).request .vblank).notifyVblank.io 0x41 = modeStat (s.io 0x41) .vblank :=
    (State.io_request_other _ _ (by decide)).trans (s.io_setMode_stat _)
  have hif : ((s.setMode .vblank).request .vblank).notifyVblank.io 0x0F = s.io 0x0F ||| 0x01 := by
    refine (State.io_setIo_same _ _ _).trans ?_
    rw [State.io_setMode_other _ _ (by decide)]
    rfl
  rw [State.enterVblank, State.io_requestIf_if, hstat, hif, bit_modeStat _ _ (by decide) (by decide)]
  rfl

theorem State.io_enterVblank_other (s : State) {n : Nat} (h : n ≠ 0x41) (hif : n ≠ 0x0F) :
    s.enterVblank.io n = s.io n := by
  rw [State.enterVblank, State.io_requestIf_other _ _ _ hif]
  exact (State.io_request_other _ _ hif).trans (s.io_setMode_other _ h)

/-! ### The scanline change (60 R346) -/

@[simp] theorem State.setLy_video (s : State) (v : Byte) : (s.setLy v).video = s.video := (s.ioChange_setLy v).video

/-- The LCD-status line is asked for by the coincidence when STAT bit 6 allows it. -/
theorem State.setLy_equal {s : State} {v : Byte} (h : v = s.io 0x45) : s.setLy v =
    ((s.setIo 0x44 v).setIo 0x41 (s.io 0x41 ||| 0x04)).requestIf (bit (s.io 0x41) 6) .lcdStatus := by
  have hbit : bit (s.io 0x41 ||| 0x04) 6 = bit (s.io 0x41) 6 := by rw [bit_or]; exact Bool.or_false _
  have hlyc : v = (s.setIo 0x44 v).io 0x45 := h.trans (s.io_setIo_other v (by decide)).symm
  have hstat : (s.setIo 0x44 v).io 0x41 = s.io 0x41 := s.io_setIo_other v (by decide)
  simp only [State.setLy, if_pos hlyc, hstat, State.io_setIo_same, hbit]

theorem State.setLy_unequal {s : State} {v : Byte} (h : v ≠ s.io 0x45) :
    s.setLy v = (s.setIo 0x44 v).setIo 0x41 (s.io 0x41 &&& 0xFB) := by
  have hlyc : v ≠ (s.setIo 0x44 v).io 0x45 := fun he => h (he.trans (s.io_setIo_other v (by decide)))
  have hstat : (s.setIo 0x44 v).io 0x41 = s.io 0x41 := s.io_setIo_other v (by decide)
  simp only [State.setLy, if_neg hlyc, hstat]

theorem State.io_setLy_ly (s : State) (v : Byte) : (s.setLy v).io 0x44 = v := by
  by_cases h : v = s.io 0x45
  · rw [State.setLy_equal h, State.io_requestIf_other _ _ _ (by decide), State.io_setIo_other _ _ (by decide),
      State.io_setIo_same]
  · rw [State.setLy_unequal h, State.io_setIo_other _ _ (by decide), State.io_setIo_same]

theorem State.io_setLy_stat (s : State) (v : Byte) :
    (s.setLy v).io 0x41 = if v = s.io 0x45 then s.io 0x41 ||| 0x04 else s.io 0x41 &&& 0xFB := by
  split
  · next h => rw [State.setLy_equal h, State.io_requestIf_other _ _ _ (by decide), State.io_setIo_same]
  · next h => rw [State.setLy_unequal h, State.io_setIo_same]

theorem State.io_setLy_if (s : State) (v : Byte) : (s.setLy v).io 0x0F =
    if v = s.io 0x45 ∧ bit (s.io 0x41) 6 = true then s.io 0x0F ||| 0x02 else s.io 0x0F := by
  by_cases h : v = s.io 0x45
  · rw [State.setLy_equal h, State.io_requestIf_if, State.io_setIo_other _ _ (by decide),
      State.io_setIo_other _ _ (by decide)]
    simp only [h, true_and]
    rfl
  · rw [State.setLy_unequal h, State.io_setIo_other _ _ (by decide), State.io_setIo_other _ _ (by decide)]
    simp only [h, false_and, if_false]

theorem State.io_setLy_other (s : State) (v : Byte) {n : Nat} (h44 : n ≠ 0x44) (h41 : n ≠ 0x41) (hif : n ≠ 0x0F) :
    (s.setLy v).io n = s.io n := by
  by_cases h : v = s.io 0x45
  · rw [State.setLy_equal h, State.io_requestIf_other _ _ _ hif, State.io_setIo_other _ _ h41,
      State.io_setIo_other _ _ h44]
  · rw [State.setLy_unequal h, State.io_setIo_other _ _ h41, State.io_setIo_other _ _ h44]

theorem State.setLy_eq (s : State) (v : Byte) :
    s.setLy v = { s with mem := { s.mem with io := (s.setLy v).mem.io } } := by
  unfold State.setLy State.requestIf; dsimp only; split_ifs <;> rfl

theorem bit_setLy_stat (s : State) (v : Byte) {b : Nat} (h : 3 ≤ b) (h8 : b < 8) :
    bit ((s.setLy v).io 0x41) b = bit (s.io 0x41) b := by
  have hflag : bit 0x04 b = false := by interval_cases b <;> rfl
  have hmask : bit 0xFB b = true := by interval_cases b <;> rfl
  rw [State.io_setLy_stat]
  split
  · rw [bit_or, hflag, Bool.or_false]
  · rw [bit_and, hmask, Bool.and_true]

/-- Settles O45: the coincidence flag as bit 2 of STAT in numbers. -/
theorem scanlineCompare : Obligations.ScanlineCompare := by
  intro s v
  have hset (x : Byte) : (x ||| 0x04).toNat = x.toNat / 8 * 8 + 4 + x.toNat % 4 := by revert x; decide
  have hclear (x : Byte) : (x &&& 0xFB).toNat = x.toNat / 8 * 8 + 0 + x.toNat % 4 := by revert x; decide
  refine ⟨s.io_setLy_ly v, ?_, s.io_setLy_if v, s.setLy_eq v, fun n h44 h41 hif => s.io_setLy_other v h44 h41 hif⟩
  rw [State.io_setLy_stat]
  split
  · exact hset _
  · exact hclear _

/-! ### The ticks of a mode -/

/-- The duration of the mode the video unit is in (60 R341). -/
def State.modeDuration (s : State) : Nat :=
  match s.video.mode with
  | .oamSearch => s.cfg.tOam
  | .transfer => s.cfg.tXfer
  | .hblank => s.cfg.tHblank
  | .vblank => s.cfg.tVblank

/-- Ticks counted, with nothing else done. -/
def State.countTicks (s : State) (n : Nat) : State :=
  { s with video := { s.video with localTicks := s.video.localTicks + n, modeTicks := s.video.modeTicks + n } }

theorem State.videoStep_oamSearch {s : State} (h : s.video.mode = .oamSearch) :
    s.videoStep = (s.countTicks 1).oamSearchTick := by
  simp only [State.videoStep, State.countTicks, h]

theorem State.videoStep_transfer {s : State} (h : s.video.mode = .transfer) :
    s.videoStep = (s.countTicks 1).transferTick := by
  simp only [State.videoStep, State.countTicks, h]

theorem State.videoStep_hblank {s : State} (h : s.video.mode = .hblank) :
    s.videoStep = (s.countTicks 1).hblankTick := by
  simp only [State.videoStep, State.countTicks, h]

theorem State.videoStep_vblank {s : State} (h : s.video.mode = .vblank) :
    s.videoStep = (s.countTicks 1).vblankTick := by
  simp only [State.videoStep, State.countTicks, h]

/-- The end of OAM-search: pixel-transfer, and the line is rendered (60 R342). -/
theorem State.videoStep_oamSearch_end {s : State} (hm : s.video.mode = .oamSearch)
    (h : s.cfg.tOam ≤ s.video.modeTicks + 1) : s.videoStep =
      ((s.countTicks 1).clearModeTicks.setMode .transfer).renderLine (s.io 0x44).toNat := by
  have hly : ((s.countTicks 1).clearModeTicks.setMode .transfer).io 0x44 = s.io 0x44 :=
    State.io_setMode_other _ _ (by decide)
  rw [State.videoStep_oamSearch hm, State.oamSearchTick, if_pos (by exact h)]
  exact congrArg (fun ly : Byte => State.renderLine _ ly.toNat) hly

/-- The end of pixel-transfer (60 R343). -/
theorem State.videoStep_transfer_end {s : State} (hm : s.video.mode = .transfer)
    (h : s.cfg.tXfer ≤ s.video.modeTicks + 1) :
    s.videoStep = (s.countTicks 1).clearModeTicks.enterMode .hblank 3 := by
  rw [State.videoStep_transfer hm, State.transferTick, if_pos (by exact h)]

/-- The scanline change at the end of H-blank (60 R344). -/
def State.nextLine (s : State) : State := (s.countTicks 1).clearModeTicks.setLy (s.io 0x44 + 1)

theorem State.io_nextLine_ly (s : State) : s.nextLine.io 0x44 = s.io 0x44 + 1 := State.io_setLy_ly _ _

theorem State.nextLine_video (s : State) :
    s.nextLine.video = { s.video with localTicks := s.video.localTicks + 1, modeTicks := 0 } := State.setLy_video _ _

theorem State.bit_nextLine_stat (s : State) {b : Nat} (h : 3 ≤ b) (h8 : b < 8) :
    bit (s.nextLine.io 0x41) b = bit (s.io 0x41) b := bit_setLy_stat _ _ h h8

/-- A request of the LCD-status line leaves that of V-blank. -/
theorem bit_zero_lcdStatus (c : Prop) [Decidable c] (v : Byte) : bit (if c then v ||| 0x02 else v) 0 = bit v 0 := by
  split
  · rw [bit_or]; exact Bool.or_false _
  · rfl

theorem State.bit_nextLine_if (s : State) : bit (s.nextLine.io 0x0F) 0 = bit (s.io 0x0F) 0 := by
  rw [State.nextLine, State.io_setLy_if]
  exact bit_zero_lcdStatus _ _

/-- The end of H-blank: V-blank after the last visible line, else OAM-search (60 R344). -/
theorem State.videoStep_hblank_end {s : State} (hm : s.video.mode = .hblank)
    (h : s.cfg.tHblank ≤ s.video.modeTicks + 1) : s.videoStep =
      if s.io 0x44 = 143 then s.nextLine.enterVblank else s.nextLine.enterMode .oamSearch 5 := by
  have hlast (x : Byte) : x + 1 = 144 ↔ x = 143 := by revert x; decide
  have hly : s.nextLine.io ioLY = s.io 0x44 + 1 := s.io_nextLine_ly
  rw [State.videoStep_hblank hm, State.hblankTick, if_pos (by exact h)]
  refine if_congr ?_ rfl rfl
  show s.nextLine.io ioLY = 144 ↔ _
  rw [hly, hlast]

/-- Before the end of a mode other than V-blank a tick only counts (60 R342 to R344). -/
theorem State.videoStep_between {s : State} (hm : s.video.mode ≠ .vblank)
    (h : s.video.modeTicks + 1 < s.modeDuration) : s.videoStep = s.countTicks 1 := by
  cases hmode : s.video.mode with
  | oamSearch =>
    simp only [State.modeDuration, hmode] at h
    rw [State.videoStep_oamSearch hmode, State.oamSearchTick, if_neg (by exact Nat.not_le.mpr h)]
  | transfer =>
    simp only [State.modeDuration, hmode] at h
    rw [State.videoStep_transfer hmode, State.transferTick, if_neg (by exact Nat.not_le.mpr h)]
  | hblank =>
    simp only [State.modeDuration, hmode] at h
    rw [State.videoStep_hblank hmode, State.hblankTick, if_neg (by exact Nat.not_le.mpr h)]
  | vblank => exact absurd hmode hm

/-- Settles O46: before the end only the counts move (`State.videoStep_between`), the end is the entry of H-blank
(`State.videoStep_transfer_end`). -/
theorem transferTick : Obligations.TransferTick := by
  intro s hm
  refine ⟨fun h => ?between, fun h => ?atEnd⟩
  case between => exact State.videoStep_between (by rw [hm]; decide) (by simpa only [State.modeDuration, hm] using h)
  case atEnd =>
    have hcode (x : Byte) : modeStat x .hblank = x &&& 0xFC := BitVec.or_zero
    rw [State.videoStep_transfer_end hm h]
    refine ⟨State.enterMode_video _ _ _, (State.io_enterMode_stat _ _ _).trans (hcode _),
      State.io_enterMode_if _ _ (by decide) (by decide), ?_, fun n h41 hif => State.io_enterMode_other _ _ _ h41 hif⟩
    exact State.enterMode_eq _ _ _

/-- Settles O47: the scanline change (`State.nextLine`), then the entry of V-blank or of OAM-search
(`State.videoStep_hblank_end`). -/
theorem hblankTick : Obligations.HblankTick := by
  intro s hm h
  have hset (x : Byte) : bit (x ||| 0x02) 1 = true := by rw [bit_or]; exact Bool.or_true _
  have hvblank (x : Byte) : bit (x ||| 0x01) 0 = true := by rw [bit_or]; exact Bool.or_true _
  rw [State.videoStep_hblank_end hm h]
  by_cases hlast : s.io 0x44 = 143
  case pos =>
    rw [if_pos hlast]
    dsimp only
    rw [State.enterVblank_video, State.nextLine_video, State.io_enterVblank_stat, State.io_enterVblank_if,
      State.io_enterVblank_other _ (by decide) (by decide), State.io_nextLine_ly,
      State.bit_nextLine_stat _ (by decide) (by decide)]
    refine ⟨rfl, rfl, fun _ => ⟨rfl, ?vblankLine, rfl, modeStat_low _ _, fun h4 => ?lcdLine⟩,
      fun hne => absurd hlast hne⟩
    case vblankLine =>
      split
      · rw [bit_or, hvblank, Bool.true_or]
      · exact hvblank _
    case lcdLine => rw [if_pos h4]; exact hset _
  case neg =>
    rw [if_neg hlast]
    dsimp only
    rw [State.enterMode_video, State.nextLine_video, State.io_enterMode_stat,
      State.io_enterMode_if _ _ (by decide) (by decide), State.io_enterMode_other _ _ _ (by decide) (by decide),
      State.io_nextLine_ly, State.bit_nextLine_stat _ (by decide) (by decide)]
    refine ⟨rfl, rfl, fun he => absurd he hlast, fun _ => ⟨rfl, ?vblankLine, rfl, modeStat_low _ _, fun h5 => ?lcdLine⟩⟩
    case vblankLine => exact (bit_zero_lcdStatus _ _).trans s.bit_nextLine_if
    case lcdLine => rw [if_pos h5]; exact hset _

/-! ### One scanline (60 R341) -/

theorem State.countTicks_add (s : State) (m n : Nat) : (s.countTicks m).countTicks n = s.countTicks (m + n) := by
  simp only [State.countTicks, Nat.add_assoc]

theorem iterate_videoStep_between {n : Nat} {s : State} (hm : s.video.mode ≠ .vblank)
    (h : s.video.modeTicks + n < s.modeDuration) : iterate State.videoStep n s = s.countTicks n := by
  induction n generalizing s with
  | zero => rfl
  | succ n ih =>
    have hrest : s.video.modeTicks + 1 + n < s.modeDuration := by omega
    rw [iterate, State.videoStep_between hm (by omega), ih (s := s.countTicks 1) hm hrest, State.countTicks_add,
      Nat.add_comm]

/-- From its start, a mode of `n + 1` ticks counts `n` of them and ends with the next. -/
theorem iterate_videoStep_mode {n : Nat} {s : State} (hm : s.video.mode ≠ .vblank) (h0 : s.video.modeTicks = 0)
    (h : s.modeDuration = n + 1) :
    iterate State.videoStep (n + 1) s = (s.countTicks n).videoStep := by
  rw [iterate_add, iterate_videoStep_between hm (by omega)]
  rfl

/-- `t` is at the start of mode `m`, in scanline `ly`, `n` ticks after `s`, with no notification in between. -/
structure State.StartsMode (s t : State) (m : VideoMode) (n : Nat) (ly : Byte) : Prop where
  cfg : t.cfg = s.cfg
  video : t.video = { s.video with localTicks := s.video.localTicks + n, modeTicks := 0, mode := m }
  ly : t.io 0x44 = ly

section
variable {s : State} {n : Nat}

theorem startsMode_transfer (hm : s.video.mode = .oamSearch) (h0 : s.video.modeTicks = 0) (h : s.cfg.tOam = n + 1) :
    s.StartsMode (iterate State.videoStep (n + 1) s) .transfer (n + 1) (s.io 0x44) := by
  have hend : s.cfg.tOam ≤ s.video.modeTicks + n + 1 := by omega
  rw [iterate_videoStep_mode (by rw [hm]; decide) h0 (by rwa [State.modeDuration, hm])]
  refine ⟨(s.countTicks n).videoStep_change.1.cfg, ?_, ?_⟩ <;> rw [State.videoStep_oamSearch_end (by exact hm) hend]
  · rw [(State.ioChange_renderLine _ _).video]; rfl
  · rw [State.io_renderLine]; exact State.io_setMode_other _ _ (by decide)

theorem startsMode_hblank (hm : s.video.mode = .transfer) (h0 : s.video.modeTicks = 0) (h : s.cfg.tXfer = n + 1) :
    s.StartsMode (iterate State.videoStep (n + 1) s) .hblank (n + 1) (s.io 0x44) := by
  have hend : s.cfg.tXfer ≤ s.video.modeTicks + n + 1 := by omega
  rw [iterate_videoStep_mode (by rw [hm]; decide) h0 (by rwa [State.modeDuration, hm])]
  refine ⟨(s.countTicks n).videoStep_change.1.cfg, ?_, ?_⟩ <;> rw [State.videoStep_transfer_end (by exact hm) hend]
  · exact State.enterMode_video _ _ _
  · exact State.io_enterMode_other _ _ _ (by decide) (by decide)

theorem startsMode_oamSearch (hm : s.video.mode = .hblank) (h0 : s.video.modeTicks = 0) (h : s.cfg.tHblank = n + 1)
    (hly : s.io 0x44 ≠ 143) :
    s.StartsMode (iterate State.videoStep (n + 1) s) .oamSearch (n + 1) (s.io 0x44 + 1) := by
  have hend : s.cfg.tHblank ≤ s.video.modeTicks + n + 1 := by omega
  rw [iterate_videoStep_mode (by rw [hm]; decide) h0 (by rwa [State.modeDuration, hm])]
  refine ⟨(s.countTicks n).videoStep_change.1.cfg, ?_, ?_⟩ <;>
    rw [State.videoStep_hblank_end (by exact hm) hend, if_neg (by exact hly)]
  · rw [State.enterMode_video, State.nextLine_video]; rfl
  · rw [State.io_enterMode_other _ _ _ (by decide) (by decide)]; exact State.io_nextLine_ly _

end

/-- Settles O48: OAM-search, pixel-transfer and H-blank one after another, each from its start to the start of the
next. -/
theorem scanlineTakes456Ticks : Obligations.ScanlineTakes456Ticks := by
  intro s hoam hxfer hhblank hmode hticks hly
  obtain ⟨hcfg1, hvideo1, hly1⟩ := startsMode_transfer (n := 79) hmode hticks hoam
  obtain ⟨hcfg2, hvideo2, hly2⟩ := startsMode_hblank (s := iterate State.videoStep 80 s) (n := 171) (by rw [hvideo1])
    (by rw [hvideo1]) (by rw [hcfg1, hxfer])
  rw [← iterate_add] at hcfg2 hvideo2 hly2
  have hne : (iterate State.videoStep 252 s).io 0x44 ≠ 143 := fun he => by
    rw [← hly1, ← hly2, he] at hly
    exact absurd hly (by decide)
  obtain ⟨-, hvideo3, hly3⟩ := startsMode_oamSearch (s := iterate State.videoStep 252 s) (n := 203) (by rw [hvideo2])
    (by rw [hvideo2]) (by rw [hcfg2, hcfg1, hhblank]) hne
  rw [← iterate_add] at hvideo3 hly3
  refine ⟨?_, by rw [hly3, hly2, hly1]⟩
  rw [hvideo3, hvideo2, hvideo1, ← hmode, ← hticks]

end Sys2Proof.Machine
end

section
/-! STAT shows the mode and the scanline is in the mode's range, in every state a run reaches (60 R347, 10 R36). -/
namespace Sys2Proof.Machine

/-! ### The invariant and the operations of the video unit -/

/-- The scanline is in a mode's range (10 R36, 60 R344, R345). -/
def VideoMode.HasLine (m : VideoMode) (ly : Byte) : Prop :=
  (m = .vblank → 144 ≤ ly.toNat ∧ ly.toNat ≤ 153) ∧ (m ≠ .vblank → ly.toNat < 144)

theorem VideoMode.hasLine_visible {m : VideoMode} {ly : Byte} (hm : m ≠ .vblank) (h : ly.toNat < 144) :
    m.HasLine ly := ⟨fun he => absurd he hm, fun _ => h⟩

theorem VideoMode.hasLine_vblank {ly : Byte} (h : 144 ≤ ly.toNat) (h' : ly.toNat ≤ 153) :
    VideoMode.vblank.HasLine ly := ⟨fun _ => ⟨h, h'⟩, fun hne => absurd rfl hne⟩

theorem State.videoInv_iff {s : State} :
    s.VideoInv ↔ s.io 0x41 &&& 0x03 = s.video.mode.code ∧ s.video.mode.HasLine (s.io 0x44) := Iff.rfl

theorem State.VideoInv.congr {s t : State} (h : s.VideoInv) (hstat : t.io 0x41 &&& 0x03 = s.io 0x41 &&& 0x03)
    (hly : t.io 0x44 = s.io 0x44) (hmode : t.video.mode = s.video.mode) : t.VideoInv := by
  rw [State.videoInv_iff] at h ⊢
  rwa [hstat, hly, hmode]

theorem State.VideoInv.setIo {s : State} (h : s.VideoInv) {n : Nat} (v : Byte) (h41 : 0x41 ≠ n) (h44 : 0x44 ≠ n) :
    (s.setIo n v).VideoInv :=
  h.congr (by rw [s.io_setIo_other v h41]) (s.io_setIo_other v h44) rfl

section
variable {s : State}

theorem State.videoInv_setMode {m : VideoMode} (h : m.HasLine (s.io 0x44)) : (s.setMode m).VideoInv := by
  rw [State.videoInv_iff, State.io_setMode_stat, State.io_setMode_other _ _ (by decide)]
  exact ⟨modeStat_low _ _, h⟩

theorem State.videoInv_enterMode {m : VideoMode} (b : Nat) (h : m.HasLine (s.io 0x44)) :
    (s.enterMode m b).VideoInv := by
  rw [State.videoInv_iff, State.io_enterMode_stat, State.io_enterMode_other _ _ _ (by decide) (by decide),
    State.enterMode_video]
  exact ⟨modeStat_low _ _, h⟩

theorem State.videoInv_enterVblank (h : VideoMode.vblank.HasLine (s.io 0x44)) : s.enterVblank.VideoInv := by
  rw [State.videoInv_iff, State.io_enterVblank_stat, State.io_enterVblank_other _ (by decide) (by decide),
    State.enterVblank_video]
  exact ⟨modeStat_low _ _, h⟩

/-- A scanline change leaves the mode bits of STAT. -/
theorem State.VideoInv.setLy {v : Byte} (h : s.VideoInv) (hv : s.video.mode.HasLine v) : (s.setLy v).VideoInv := by
  have hset (x : Byte) : (x ||| 0x04) &&& 0x03 = x &&& 0x03 := by revert x; decide
  have hclear (x : Byte) : (x &&& 0xFB) &&& 0x03 = x &&& 0x03 := by revert x; decide
  have hlow : (s.setLy v).io 0x41 &&& 0x03 = s.io 0x41 &&& 0x03 := by
    rw [State.io_setLy_stat]; split
    · exact hset _
    · exact hclear _
  rw [State.videoInv_iff, hlow, State.io_setLy_ly, State.setLy_video]
  exact ⟨h.1, hv⟩

/-! ### The ticks of the devices -/

/-- One tick: at the end of a mode the next one is entered with a scanline in its range (60 R342 to R345). -/
theorem State.VideoInv.videoStep (h : s.VideoInv) : s.videoStep.VideoInv := by
  have hcount : (s.countTicks 1).VideoInv := h
  obtain ⟨-, hvblank, hvisible⟩ := h
  cases hm : s.video.mode with
  | oamSearch =>
    have hly : (s.io 0x44).toNat < 144 := hvisible (by rw [hm]; decide)
    rw [State.videoStep_oamSearch hm, State.oamSearchTick]
    split
    · have hmode : ((s.countTicks 1).clearModeTicks.setMode .transfer).VideoInv :=
        State.videoInv_setMode (VideoMode.hasLine_visible (by decide) hly)
      exact hmode.congr (by rw [State.io_renderLine]) (State.io_renderLine _ _ _) (by rw [State.renderLine_eq])
    · exact hcount
  | transfer =>
    have hly : (s.io 0x44).toNat < 144 := hvisible (by rw [hm]; decide)
    rw [State.videoStep_transfer hm, State.transferTick]
    split
    · exact State.videoInv_enterMode 3 (VideoMode.hasLine_visible (by decide) hly)
    · exact hcount
  | hblank =>
    have hly : (s.io 0x44).toNat < 144 := hvisible (by rw [hm]; decide)
    by_cases hend : s.cfg.tHblank ≤ s.video.modeTicks + 1
    · rw [State.videoStep_hblank_end hm hend]
      split
      · next hlast =>
        refine State.videoInv_enterVblank ?_
        rw [State.io_nextLine_ly, hlast]
        exact VideoMode.hasLine_vblank (by decide) (by decide)
      · next hlast =>
        refine State.videoInv_enterMode 5 (VideoMode.hasLine_visible (by decide) ?_)
        rw [State.io_nextLine_ly]
        bv_omega
    · rw [State.videoStep_hblank hm, State.hblankTick, if_neg (by exact hend)]
      exact hcount
  | vblank =>
    have hlow : 144 ≤ (s.io 0x44).toNat := (hvblank hm).1
    rw [State.videoStep_vblank hm, State.vblankTick]
    split
    · refine State.videoInv_enterMode 5 (VideoMode.hasLine_visible (by decide) ?_)
      rw [State.io_setLy_ly]
      decide
    · split
      · next hline =>
        have hly : (s.io 0x44).toNat < 153 := hline.2
        refine hcount.setLy ?_
        show s.video.mode.HasLine (s.io 0x44 + 1)
        rw [hm]
        exact VideoMode.hasLine_vblank (by bv_omega) (by bv_omega)
      · exact hcount

end

theorem timerKept_videoInv : TimerKept State.VideoInv where
  div _ v h := h.setIo v (by decide) (by decide)
  tima _ v h := h.setIo v (by decide) (by decide)
  request _ h := h.setIo _ (by decide) (by decide)
  own _ _ h := h

theorem audioKept_videoInv : AudioKept State.VideoInv where
  clock s c ch _ _ h := h.congr (by rw [State.io_setChan]) (s.io_setChan c ch _) (by cases c <;> rfl)
  disable s c h := h.congr (by rw [s.io_disable c (by decide)]) (s.io_disable c (by decide)) (by cases c <;> rfl)
  nr13 _ v h := h.setIo v (by decide) (by decide)
  nr14 _ v h := h.setIo v (by decide) (by decide)
  own _ _ _ _ h := h

/-! ### The writes of the I/O page -/

/-- 20 R76, R77: a write of STAT leaves the mode bits, a write of LY does nothing; no other write reaches them. -/
theorem State.VideoInv.writeIo {s : State} (h : s.VideoInv) {n : Nat} (v : Byte) (hn : n < 128) :
    (s.writeIo n v).VideoInv := by
  have hmask (x : Byte) : (v &&& 0xF8 ||| x &&& 0x07) &&& 0x03 = x &&& 0x03 := by
    rw [BitVec.and_or_distrib_right, BitVec.and_assoc, BitVec.and_assoc, show (0xF8 &&& 0x03 : Byte) = 0#8 from rfl,
      BitVec.and_zero, BitVec.zero_or]
    rfl
  have hvideo := (s.busChange_writeIo n v).video
  by_cases h41 : n = 0x41
  · subst h41
    refine h.congr ?_ (s.io_setIo_other _ (by decide)) rfl
    exact (congrArg (· &&& 0x03) (s.io_setIo_same 0x41 _)).trans (hmask _)
  by_cases h44 : n = 0x44
  · subst h44; exact h
  have hf := storeFrame_writeIo s v (ioAddress_toNat hn) (regionOf_ioAddress hn)
  have hio {k : Nat} (hk : k ≠ 0x26) (hne : n ≠ k) : (s.writeIo n v).io k = s.io k :=
    hf.io k hk (by simpa [ioAddress_toNat hn] using hne)
  exact h.congr (by rw [hio (by decide) h41]) (hio (by decide) h44) (by rw [hvideo])

theorem ioKept_videoInv : IoKept State.VideoInv where
  same _ _ hio hmode _ _ h := h.congr (by rw [hio]) (hio _) hmode
  plainIo _ _ v hn h := h.setIo v (by rintro rfl; exact hn (by decide)) (by rintro rfl; exact hn (by decide))
  writeIo _ _ v hn h := h.writeIo v hn
  sync _ h := syncDevices_keeps timerKept_videoInv (fun _ hs => hs.videoStep) audioKept_videoInv h
  booted s image mbc hw := by
    have hstat := State.booted_io image mbc (Config.wellFormed_ioReset hw (n := 0x41) (by decide)) (by decide)
    obtain ⟨hlow, hhigh⟩ := Config.wellFormed_lyReset hw
    rw [State.videoInv_iff, hstat, State.booted_ly]
    exact ⟨(by decide : ioReset 0x41 &&& 0x03 = VideoMode.vblank.code), VideoMode.hasLine_vblank hlow hhigh⟩

/-- Settles O58: the video unit's tick enters a mode with a scanline in its range (`State.VideoInv.videoStep`), and
nothing else writes the mode, its bits in STAT or the scanline (`ioKept_videoInv`). -/
theorem stepKeepsVideoState : Obligations.StepKeepsVideoState := fun _ _ hw h hn =>
  (ioKept_videoInv.stepKept.step ⟨hw, h⟩ hn).2

end Sys2Proof.Machine
end

section
/-! The ticks of the timer (60 R331, R332), and the trigger and the length clock of a tone channel (60 R362, R366,
R369). -/
namespace Sys2Proof.Machine

/-! ### The divider (60 R331) -/

/-- The programmable counter leaves the divider alone. -/
theorem State.counterTick_divider (s : State) :
    s.counterTick.io 0x04 = s.io 0x04 ∧ s.counterTick.timer.divAcc = s.timer.divAcc := by
  have hincrement (u : State) : u.timaIncrement.io 0x04 = u.io 0x04 ∧ u.timaIncrement.timer = u.timer := by
    refine ⟨?_, u.ioChange_timaIncrement.timer⟩
    unfold State.timaIncrement; split
    · rw [State.io_request_other _ _ (by decide), State.io_setIo_other _ _ (by decide)]
    · rw [State.io_setIo_other _ _ (by decide)]
  unfold State.counterTick; split
  · split
    · obtain ⟨hio, htimer⟩ := hincrement { s with timer := { s.timer with timaAcc := 0 } }
      exact ⟨hio, by rw [htimer]⟩
    · exact ⟨rfl, rfl⟩
  · exact ⟨rfl, rfl⟩

/-- A timer tick that ends the divider's period. -/
theorem State.timerStep_divider_due {s : State} (h : s.cfg.divPeriod ≤ s.timer.divAcc + 1) :
    s.timerStep.io 0x04 = s.io 0x04 + 1 ∧ s.timerStep.timer.divAcc = 0 := by
  obtain ⟨hio, hacc⟩ :=
    ({ s with timer := { s.timer with localTicks := s.timer.localTicks + 1 } } : State).dividerTick.counterTick_divider
  rw [State.timerStep, hio, hacc, State.dividerTick, if_pos (by exact h)]
  exact ⟨State.io_setIo_same _ _ _, rfl⟩

/-- A timer tick inside the divider's period. -/
theorem State.timerStep_divider_between {s : State} (h : s.timer.divAcc + 1 < s.cfg.divPeriod) :
    s.timerStep.io 0x04 = s.io 0x04 ∧ s.timerStep.timer.divAcc = s.timer.divAcc + 1 := by
  obtain ⟨hio, hacc⟩ :=
    ({ s with timer := { s.timer with localTicks := s.timer.localTicks + 1 } } : State).dividerTick.counterTick_divider
  rw [State.timerStep, hio, hacc, State.dividerTick, if_neg (by exact Nat.not_le.mpr h)]
  exact ⟨rfl, rfl⟩

/-- Settles O43, by induction on the number of ticks: the tick that ends a period counts DIV up, any other counts the
accumulator up. -/
theorem dividerCounts : Obligations.DividerCounts := by
  intro s n hperiod hacc
  induction n generalizing s with
  | zero => exact ⟨by simp only [iterate]; omega, by simp only [iterate]; omega⟩
  | succ n ih =>
    have hcfg : s.timerStep.cfg.divPeriod = 256 := by rw [s.timerChange_timerStep.cfg, hperiod]
    by_cases hdue : s.timer.divAcc + 1 < 256
    · obtain ⟨hio, hnext⟩ := State.timerStep_divider_between (hperiod.symm ▸ hdue)
      obtain ⟨hcount, hrest⟩ := ih s.timerStep hcfg (by omega)
      rw [hio, hnext] at hcount
      rw [hnext] at hrest
      simp only [iterate, hcount, hrest]
      constructor <;> omega
    · obtain ⟨hio, hnext⟩ := State.timerStep_divider_due (s := s) (by omega)
      obtain ⟨hcount, hrest⟩ := ih s.timerStep hcfg (by omega)
      rw [hio, hnext, BitVec.toNat_add] at hcount
      rw [hnext] at hrest
      have hone : (1 : Byte).toNat = 1 := rfl
      simp only [iterate, hcount, hrest, hone]
      constructor <;> omega

/-! ### The programmable counter (60 R332) -/

/-- Settles O44: the four cases of `State.counterTick` and `State.timaIncrement`. -/
theorem timaTick : Obligations.TimaTick := by
  intro s period due
  have hperiod : timaPeriod s.cfg ((s.io 0x07).toNat % 4) = period := rfl
  have htick (hon : bit (s.io 0x07) 2 = true) (h : period ≤ s.timer.timaAcc + 1) :
      s.counterTick = due.timaIncrement := by
    rw [State.counterTick, if_pos hon, if_pos (by exact h)]
  refine ⟨fun hoff => ?off, fun hon h => ?between, fun hon h hne => ?count, fun hon h he => ?overflow⟩
  case off => rw [State.counterTick, if_neg (by rw [hoff]; decide)]
  case between => rw [State.counterTick, if_pos hon, if_neg (by exact Nat.not_le.mpr h)]
  case count => rw [htick hon h, State.timaIncrement, if_neg (by exact hne)]; rfl
  case overflow =>
    have hif : (due.setIo 0x05 (s.io 0x06)).io 0x0F = s.io 0x0F := State.io_setIo_other _ _ (by decide)
    rw [htick hon h, State.timaIncrement, if_pos (by exact he), ← hif]
    rfl

/-! ### The enable flags in NR52 (60 R369) -/

/-- NR52 with the two enable flags in its low bits. -/
def mirrored (nr52 : Byte) (two one : Bool) : Byte := nr52 &&& 0xFC ||| BitVec.ofNat 8 (2 * bitVal two + bitVal one)

theorem State.io_mirrorEnables_nr52 (s : State) :
    s.mirrorEnables.io 0x26 = mirrored (s.io 0x26) s.audio.ch2.enabled s.audio.ch1.enabled := State.io_setIo_same _ _ _

theorem toNat_mirrored (nr52 : Byte) (two one : Bool) :
    (mirrored nr52 two one).toNat = nr52.toNat / 4 * 4 + 2 * bitVal two + bitVal one := by
  revert nr52 two one; decide

theorem bit_mirrored (nr52 : Byte) (two one : Bool) :
    bit (mirrored nr52 two one) 0 = one ∧ bit (mirrored nr52 two one) 1 = two := by
  revert nr52 two one; decide

/-! ### The trigger of channel 2 (60 R366, 20 R78) -/

/-- The channel after a trigger by a byte written to NR24. -/
def State.triggeredTwo (s : State) (v : Byte) : Channel where
  enabled := true
  length := if s.audio.ch2.length = 0 then 64 else s.audio.ch2.length
  freqTimer := (2048 - (v.toNat % 8 * 256 + (s.io 0x18).toNat)) * 4
  envTimer := (s.io 0x17).toNat % 8
  volume := (s.io 0x17).toNat / 16
  dutyPos := s.audio.ch2.dutyPos

theorem State.triggerChannel_two (s : State) (v : Byte) : (s.setIo 0x19 v).triggerChannel .two =
    (s.setIo 0x19 v).setChan .two (s.triggeredTwo v) := by
  have h19 : (s.setIo 0x19 v).io (nr .two 4) = v := s.io_setIo_same 0x19 v
  have h18 : (s.setIo 0x19 v).io (nr .two 3) = s.io 0x18 := s.io_setIo_other v (by decide)
  have h17 : (s.setIo 0x19 v).io (nr .two 2) = s.io 0x17 := s.io_setIo_other v (by decide)
  simp only [State.triggerChannel, State.wavePeriod, State.freq, h19, h18, h17]
  rfl

/-! ### The length clock (60 R362) -/

section
variable {s : State} {c : Chan}

theorem State.lengthClock_off (h : bit (s.io (nr c 4)) 6 = false ∨ (s.chan c).length = 0) : s.lengthClock c = s := by
  rw [State.lengthClock, if_neg]
  rintro ⟨hon, hpos⟩
  rcases h with h | h
  · rw [hon] at h; cases h
  · omega

theorem State.lengthClock_counts (hon : bit (s.io (nr c 4)) 6 = true) (h : 1 < (s.chan c).length) :
    s.lengthClock c = s.setChan c { s.chan c with length := (s.chan c).length - 1 } := by
  rw [State.lengthClock, if_pos ⟨hon, by omega⟩]
  exact if_neg (by omega)

theorem State.lengthClock_silences (hon : bit (s.io (nr c 4)) 6 = true) (h : (s.chan c).length = 1) :
    s.lengthClock c = (s.setChan c { s.chan c with length := 0 }).disable c := by
  rw [State.lengthClock, if_pos ⟨hon, by omega⟩, h]
  rfl

end

/-- A silenced channel: its enable flag, and its bit of NR52. -/
theorem State.chan_disable (s : State) (c : Chan) : (s.disable c).chan c = { s.chan c with enabled := false } := by
  cases c <;> rfl

theorem State.bit_disable (s : State) (c : Chan) :
    bit ((s.disable c).io 0x26) (match c with | .one => 0 | .two => 1) = false := by
  rw [State.disable, State.io_mirrorEnables_nr52]
  cases c
  · exact (bit_mirrored _ _ _).1
  · exact (bit_mirrored _ _ _).2

theorem State.chan_setChan (s : State) (c : Chan) (ch : Channel) : (s.setChan c ch).chan c = ch := by
  cases c <;> rfl

/-- Settles O50: the trigger by `State.triggerChannel_two` and NR52 in numbers, the length clock case by case. -/
theorem triggerAndLength : Obligations.TriggerAndLength := by
  refine ⟨fun s v hv => ?trigger, fun s c => ⟨State.lengthClock_off, State.lengthClock_counts, fun hon h => ?silenced⟩⟩
  case trigger =>
    have hwrite : writeByte 0xFF19 v s = .ok () ((s.setIo 0x19 v).trigger .two) := by
      refine (writeByte_io (n := 0x19) v s (by decide) (by decide)).trans ?_
      simp only [State.writeIo, hv, if_true]
    have haudio : ((s.setIo 0x19 v).triggerChannel .two).audio = { s.audio with ch2 := s.triggeredTwo v } := by
      rw [State.triggerChannel_two]; rfl
    have h52 : ((s.setIo 0x19 v).triggerChannel .two).io 0x26 = s.io 0x26 := by
      rw [State.triggerChannel_two, State.io_setChan, State.io_setIo_other _ _ (by decide)]
    refine ⟨_, hwrite, ?_, haudio, ?_, fun n h19 h26 => ?_⟩
    · rw [State.io_trigger _ _ (by decide), State.io_setIo_same]
    · rw [State.trigger, State.io_mirrorEnables_nr52, h52, haudio, toNat_mirrored]; rfl
    · rw [State.io_trigger _ _ h26, State.io_setIo_other _ _ h19]
  case silenced =>
    rw [State.lengthClock_silences hon h]
    refine ⟨?_, State.bit_disable _ _⟩
    rw [State.chan_disable, State.chan_setChan]

end Sys2Proof.Machine
end

section
/-! Interrupts, the halted and the stopped machine, and the moves of the host (60 R305, R310 to R322, R375, R390). -/
namespace Sys2Proof.Machine

/-! ### The interrupt test (60 R312, R314) -/

theorem firstLine_zero : firstLine 0 = none := by decide

/-- The line of the lowest bit that is set. -/
theorem firstLine_of_lowest {pend : Byte} {i : IrqLine} (hi : bit pend i.bitNo = true)
    (hlow : ∀ j, j < i.bitNo → bit pend j = false) : firstLine pend = some i := by
  cases i <;> simp only [IrqLine.bitNo] at hi hlow <;> simp [firstLine, hi, hlow]

/-- The five lines are the low five bits. -/
theorem bit_and_lines (v : Byte) {j : Nat} (h : j < 5) : bit (v &&& 0x1F) j = bit v j := by
  have hmask : bit 0x1F j = true := by interval_cases j <;> rfl
  rw [bit_and, hmask, Bool.and_true]

/-- Settles O38: nothing pending has no first line, and the lowest pending bit is the first line's
(`firstLine_of_lowest`). -/
theorem interruptTest : Obligations.InterruptTest := by
  intro s
  refine ⟨?idle, fun i hime hi hlow => ?dispatched⟩
  case idle =>
    rintro (hime | hpend)
    · exact testInterrupts_off hime
    · exact testInterrupts_idle (by rw [State.pending, hpend]; exact firstLine_zero)
  case dispatched =>
    have hbit : i.bitNo < 5 := by cases i <;> decide
    refine testInterrupts_dispatch hime (firstLine_of_lowest ?_ fun j hj => ?_)
    · rw [State.pending, bit_and_lines _ hbit]; exact hi
    · rw [State.pending, bit_and_lines _ (hj.trans hbit)]; exact hlow j hj

/-! ### A push (00 R10) and what it leaves -/

/-- A push changes `SP` and nothing else of the CPU. -/
theorem push16_ok_cpu {v : Word} {s u : State} (h : push16 v s = .ok () u) :
    u.cpu = { s.cpu with sp := s.cpu.sp - 2 } := by
  cases hw : writeByte (s.cpu.sp - 1) (hiByte v) (s.onCpu fun c => c.setSp (c.sp - 1)) with
  | ok x w =>
    rw [push16_of_ok hw] at h
    rw [writeByte_ok_cpu h, State.onCpu_cpu, writeByte_ok_cpu hw]
    rfl
  | stop info w => rw [push16_of_stop hw] at h; cases h

theorem push16_cfg {v : Word} {s u : State} (h : push16 v s = .ok () u) : u.cfg = s.cfg := by
  have hkept := (kept_sameFixedParts s).push16 v (.refl s)
  rw [h] at hkept
  exact State.SameFixedParts.cfg (s := s) (t := u) hkept

/-- A write stops only at an address of external RAM that does not exist, or at the DMA register (20 R80, R101). -/
theorem writeByte_stop_address {a : Word} {v : Byte} {s u : State} {info : Fault} (h : writeByte a v s = .stop info u) :
    (regionOf a = .eram ∧ s.backed a = false) ∨ a = 0xFF46 := by
  by_cases hb : s.backed a = true
  · by_cases hd : a = 0xFF46
    · exact .inr hd
    · rw [writeByte_backed hb hd] at h; cases h
  · refine .inl ⟨?_, eq_false_of_ne_true hb⟩
    by_contra hr
    exact hb (by unfold State.backed; split <;> simp_all)

/-- A write that is not to `IF` leaves it, whether it goes through or stops. -/
theorem writeByte_if {a : Word} (v : Byte) (s : State) (h : a ≠ 0xFF0F) :
    (writeByte a v s).state.io 0x0F = s.io 0x0F := by
  refine (storeFrame_writeByte a v s).io 0x0F (by decide) fun b hb => ?_
  obtain rfl := List.mem_singleton.mp hb
  exact fun he => h (BitVec.eq_of_toNat_eq he)

/-- A write that stops is not to `IF`, nor to the byte before it. -/
theorem writeByte_stop_apart_from_if {a : Word} {v : Byte} {s u : State} {info : Fault}
    (h : writeByte a v s = .stop info u) : a ≠ 0xFF0F ∧ a + 1 ≠ 0xFF0F := by
  rcases writeByte_stop_address h with ⟨hr, -⟩ | rfl
  · refine ⟨by rintro rfl; exact absurd hr (by decide), fun he => ?_⟩
    obtain rfl : a = 0xFF0E := by bv_omega
    exact absurd hr (by decide)
  · decide

/-- 60 R305: a push that stops has changed `SP` at most in the CPU, and not `IF`: where its second write stops, the
first was to the byte after an address that stops (`writeByte_stop_apart_from_if`). -/
theorem push16_stop {v : Word} {s u : State} {info : Fault} (h : push16 v s = .stop info u) :
    (∃ sp, u.cpu = { s.cpu with sp := sp }) ∧ u.io 0x0F = s.io 0x0F := by
  have hfirst := writeByte_if (a := s.cpu.sp - 1) (hiByte v) (s.onCpu fun c => c.setSp (c.sp - 1))
  cases hw : writeByte (s.cpu.sp - 1) (hiByte v) (s.onCpu fun c => c.setSp (c.sp - 1)) with
  | stop info' w =>
    rw [push16_of_stop hw] at h
    cases h
    rw [hw] at hfirst
    exact ⟨⟨s.cpu.sp - 1, (writeByte_stop_cpu hw).trans rfl⟩, hfirst (writeByte_stop_apart_from_if hw).1⟩
  | ok x w =>
    rw [push16_of_ok hw] at h
    obtain ⟨hlow, hhigh⟩ := writeByte_stop_apart_from_if h
    have hnext : s.cpu.sp - 2 + 1 = s.cpu.sp - 1 := by bv_omega
    have hsecond := writeByte_if (loByte v) (w.onCpu fun c => c.setSp (s.cpu.sp - 2)) hlow
    rw [hw] at hfirst
    rw [h] at hsecond
    refine ⟨⟨s.cpu.sp - 2, ?_⟩, hsecond.trans (hfirst (hnext ▸ hhigh))⟩
    rw [writeByte_stop_cpu h, State.onCpu_cpu, writeByte_ok_cpu hw]
    rfl

/-! ### The dispatch (60 R311, R313) -/

theorem dispatch_of_ok {i : IrqLine} {s u : State} (h : push16 s.cpu.pc (s.onCpu Cpu.wake) = .ok () u) :
    dispatch i s = .ok () ((u.setIo 0x0F (u.io 0x0F &&& ~~~i.mask)).onCpu fun c =>
      { c with ime := false, pc := i.vector, ticks := c.ticks + u.cfg.intDispatchTicks }) := by
  have h' : push16 (s.onCpu Cpu.wake).cpu.pc (s.onCpu Cpu.wake) = .ok () u := h
  rw [dispatch, h', Access.andThen_ok]
  rfl

theorem dispatch_of_stop {i : IrqLine} {s u : State} {info : Fault}
    (h : push16 s.cpu.pc (s.onCpu Cpu.wake) = .stop info u) : dispatch i s = .stop info u := by
  have h' : push16 (s.onCpu Cpu.wake).cpu.pc (s.onCpu Cpu.wake) = .stop info u := h
  rw [dispatch, h', Access.andThen_stop]

/-- The request of a line is cleared, no other bit. -/
theorem bit_clear_line (v : Byte) (i : IrqLine) {k : Nat} (h : k < 8) :
    bit (v &&& ~~~i.mask) k = (decide (k ≠ i.bitNo) && bit v k) := bit_resBit i.bitNo v h

theorem IrqLine.vector_eq (i : IrqLine) : i.vector = BitVec.ofNat 16 (0x40 + 8 * i.bitNo) := by
  cases i <;> rfl

/-- Settles O39: the push leaves the CPU but `SP` (`push16_ok_cpu`), and a stop in it leaves `IF` as well
(`push16_stop`). -/
theorem interruptDispatch : Obligations.InterruptDispatch := by
  intro s i
  refine ⟨fun u hu => ?done, fun info u hu => ?stopped⟩
  case done =>
    have hcpu : u.cpu = { s.cpu.wake with sp := s.cpu.sp - 2 } := push16_ok_cpu hu
    have hcfg : u.cfg = s.cfg := (push16_cfg hu).trans (s.onCpu_cfg _)
    refine ⟨hcpu, _, dispatch_of_ok hu, ?_, fun k hk => ?_, ?_⟩
    · rw [State.onCpu_cpu, State.setIo_cpu, hcpu, hcfg, IrqLine.vector_eq]; rfl
    · rw [State.io_onCpu, State.io_setIo_same]; exact bit_clear_line _ i hk
    · rw [State.io_onCpu, State.io_setIo_same]; rfl
  case stopped =>
    obtain ⟨⟨sp, hcpu⟩, hif⟩ := push16_stop hu
    exact ⟨dispatch_of_stop hu, hif, by rw [hcpu]; rfl, by rw [hcpu]; rfl⟩

/-! ### The step without a move of the host (60 R320 to R322) -/

theorem step_of_no_plan {s : State} (h : s.hostPlan = []) : step s = machineStep s := by
  simp only [step, hostTurn, h, onNext]

theorem step_halted {s : State} (hplan : s.hostPlan = []) (hrun : s.cpu.runState = .halted) :
    step s = stepHalted s := by
  simp only [step_of_no_plan hplan, machineStep, hrun]

/-- A halted machine wakes as soon as something enabled is pending, whatever `IME` (60 R321). -/
theorem stepHalted_wakes {s : State} (h : s.pending ≠ 0) :
    stepHalted s = testAndSync { s with cpu := { s.cpu with runState := .running } } := if_pos h

/-- Settles O40: a halted machine idles, or wakes into the interrupt test (`stepHalted_wakes`). -/
theorem haltedStep : Obligations.HaltedStep := by
  intro s hplan hrun
  rw [step_halted hplan hrun]
  refine ⟨fun hpend => ?idle, fun hpend hime => ?wakes, fun i t hime hi ht => ?dispatches⟩
  case idle => exact if_neg fun hne => hne hpend
  case wakes => rw [stepHalted_wakes hpend]; exact testAndSync_ok (testInterrupts_off hime)
  case dispatches =>
    have hpend : s.pending ≠ 0 := fun he => by
      rw [State.pending] at he
      rw [he, firstLine_zero] at hi
      cases hi
    rw [stepHalted_wakes hpend]
    refine testAndSync_ok (Eq.trans (testInterrupts_dispatch ?_ ?_) ht)
    · exact hime
    · exact hi

/-- Settles O41: the arms of the machine step and of the resume move for each run state. -/
theorem stoppedAndFaultedStates : Obligations.StoppedAndFaultedStates := by
  intro s
  refine ⟨fun hplan hrun => ?_, fun info hplan hrun => ?_, fun hrun => ?_, fun hrun => ?_⟩
  · simp only [step_of_no_plan hplan, machineStep, hrun]
  · simp only [step_of_no_plan hplan, machineStep, hrun]
  · simp only [hostMove, State.resumeFromStop, hrun]
  · cases h : s.cpu.runState with
    | stopped => exact absurd h hrun
    | running | halted | faulted _ => simp only [hostMove, State.resumeFromStop, h]

/-! ### The moves of the host (60 R375, R368, 20 R97) -/

/-- Settles O51: the moves act in a state that is not faulted; the button's request is made when it goes down in a group
that P1 selects. -/
theorem hostMoves_spec : Obligations.HostMoves := by
  intro s name pressed hf selected moved
  have hselected : selected = !(bit (s.io 0x00) name.selectBit) := by cases name <;> rfl
  simp only [hostMove, hf]
  refine ⟨?button, rfl, rfl, fun n => rfl⟩
  case button =>
    have hmove : s.setButton name pressed = moved.requestIf (!(s.buttons.get name) && pressed && selected) .joypad := by
      rw [hselected]; rfl
    have hwhen : (!(s.buttons.get name) && pressed && selected) = true ↔
        s.buttons.get name = false ∧ pressed = true ∧ selected = true := by
      simp only [Bool.and_eq_true, Bool.not_eq_true', and_assoc]
    simp only [hmove, State.requestIf, hwhen]
    rfl

end Sys2Proof.Machine
end

section
/-! The bytes at `PC` and the instruction a step executes (30 R121, 60 R320). -/
namespace Sys2Proof

/-- The decoder gives an instruction back from the first byte of its encoding and the bytes after it. -/
theorem decodeOp_encode (i : Instr) :
    ∃ op rest, encode i = op :: rest ∧ decodeOp op (rest.getD 0 0) (rest.getD 1 0) = i := by
  cases i with
  | ld_BC_d16 n16 | ld_atA16_SP n16 | ld_DE_d16 n16 | ld_HL_d16 n16 | ld_SP_d16 n16 | jp_NZ_a16 n16 | jp_a16 n16
  | call_NZ_a16 n16 | jp_Z_a16 n16 | call_Z_a16 n16 | call_a16 n16 | jp_NC_a16 n16 | call_NC_a16 n16
  | jp_C_a16 n16 | call_C_a16 n16 | ld_atA16_A n16 | ld_A_atA16 n16 =>
    exact ⟨_, _, rfl, congrArg _ (wordOf_hi_lo n16)⟩
  | ld_B_d8 n8 | ld_C_d8 n8 | stop n8 | ld_D_d8 n8 | jr_e8 n8 | ld_E_d8 n8 | jr_NZ_e8 n8 | ld_H_d8 n8
  | jr_Z_e8 n8 | ld_L_d8 n8 | jr_NC_e8 n8 | ld_atHL_d8 n8 | jr_C_e8 n8 | ld_A_d8 n8 | add_A_d8 n8 | adc_A_d8 n8
  | sub_d8 n8 | sbc_A_d8 n8 | ldh_atA8_A n8 | and_d8 n8 | add_SP_e8 n8 | xor_d8 n8 | ldh_A_atA8 n8 | or_d8 n8
  | ld_HL_SP_e8 n8 | cp_d8 n8 =>
    exact ⟨_, _, rfl, rfl⟩
  | _ => exact ⟨_, _, rfl, rfl⟩

end Sys2Proof
end

section
/-! The fetch, and so the step of a running machine, by the bytes at `PC` (30 R121, 60 R320). -/
namespace Sys2Proof.Machine

/-! ### Bytes read one after another -/

theorem Access.andThen_eq_ok {α β : Type} {x : Access α} {f : α → State → Access β} {w : β} {u : State}
    (h : x.andThen f = .ok w u) : ∃ v t, x = .ok v t ∧ f v t = .ok w u := by
  cases x with
  | ok v t => exact ⟨v, t, rfl, h⟩
  | stop info t => cases h

theorem readRun_zero {a : Word} {s u : State} {bytes : List Byte} (h : readRun 0 a s = .ok bytes u) :
    bytes = [] ∧ u = s := by
  cases h; exact ⟨rfl, rfl⟩

theorem readRun_succ {n : Nat} {a : Word} {s u : State} {v : Byte} {vs : List Byte}
    (h : readRun (n + 1) a s = .ok (v :: vs) u) :
    ∃ t, readByte a s = .ok v t ∧ readRun n (a + 1) t = .ok vs u := by
  obtain ⟨v', t, hv, hrest⟩ := Access.andThen_eq_ok h
  obtain ⟨vs', u', hvs, hok⟩ := Access.andThen_eq_ok hrest
  cases hok
  exact ⟨t, hv, hvs⟩

/-! ### The fetch -/

/-- Where the bytes at `PC` are an instruction's encoding, the fetch reads them and gives the instruction. -/
theorem fetch_of_readRun {i : Instr} {s u : State}
    (h : readRun (encode i).length s.cpu.pc s = .ok (encode i) u) : fetch s = .ok i u := by
  have hpc : s.cpu.pc + 1 + 1 = s.cpu.pc + 2 := by bv_omega
  obtain ⟨op, rest, he, hi⟩ := decodeOp_encode i
  have hlen : (op :: rest).length = opLength op := by
    rw [← he, ← length_encode_decodeOp op (rest.getD 0 0) (rest.getD 1 0), hi]
  have hle := (opLength_bounds op).2
  rw [he] at h
  obtain ⟨t, hop, h⟩ := readRun_succ h
  match rest, h, hi, hlen with
  | [], h, hi, hlen =>
    obtain ⟨-, rfl⟩ := readRun_zero h
    simp only [fetch, hop, Access.andThen_ok, ← hlen, List.length_cons, List.length_nil]
    exact congrArg (Access.ok · _) hi
  | [b1], h, hi, hlen =>
    obtain ⟨t1, hb1, h⟩ := readRun_succ h
    obtain ⟨-, rfl⟩ := readRun_zero h
    simp only [fetch, hop, hb1, Access.andThen_ok, ← hlen, List.length_cons, List.length_nil]
    exact congrArg (Access.ok · _) hi
  | [b1, b2], h, hi, hlen =>
    obtain ⟨t1, hb1, h⟩ := readRun_succ h
    obtain ⟨t2, hb2, h⟩ := readRun_succ h
    obtain ⟨-, rfl⟩ := readRun_zero h
    rw [hpc] at hb2
    simp only [fetch, hop, hb1, hb2, Access.andThen_ok, ← hlen, List.length_cons, List.length_nil]
    exact congrArg (Access.ok · _) hi
  | b1 :: b2 :: b3 :: rest, _, _, hlen =>
    simp only [List.length_cons] at hlen
    omega

/-- Settles O5: the fetch gives the instruction whose bytes stand at `PC` (`fetch_of_readRun`); what follows it is
`afterInstruction`, case by case. -/
theorem stepRunsDecodedInstruction : Obligations.StepRunsDecodedInstruction := by
  intro s u i hplan hrun hbytes
  have hfetch : fetch (s.onCpu Cpu.consumeEi) = .ok i u := by
    refine fetch_of_readRun ?_
    rw [State.onCpu_cpu, Cpu.consumeEi_pc]
    exact hbytes
  have hstep (t : State) (ht : exec i u = .next t) : step s = afterInstruction t := by
    rw [step_running hplan hrun, stepRunning, executeNext, hfetch]
    simp only [ht, onNext]
  refine ⟨fun t ht hf => ?_, fun t ht hs => ?_, fun t v ht hf hs hv => ?_, fun t v info ht hf hs hv => ?_⟩ <;>
    rw [hstep t ht]
  · exact afterInstruction_faulted hf
  · exact afterInstruction_stopped hs
  · rw [afterInstruction_goesOn hf hs]; exact testAndSync_ok hv
  · rw [afterInstruction_goesOn hf hs]; exact testAndSync_stop hv

end Sys2Proof.Machine
end

section
/-! Decoding and encoding are inverse to each other: a list of bytes is decoded to the instruction whose encoding stands
at its head, and to no other (30 R120, R130 to R133). -/
namespace Sys2Proof

/-- Different instructions have different encodings (30 R133). -/
theorem encode_injective {i j : Instr} (h : encode i = encode j) : i = j := by
  obtain ⟨op, rest, he, hi⟩ := decodeOp_encode i
  obtain ⟨op', rest', he', hj⟩ := decodeOp_encode j
  rw [he, he'] at h
  cases h
  exact hi.symm.trans hj

/-- Where enough bytes follow, the operands that `decode` reads are the bytes that follow. -/
theorem take_operands (op : Byte) {tail : List Byte} {n : Nat} (hle : n ≤ 3) (hn : n ≤ (op :: tail).length) :
    [op, tail.getD 0 0, tail.getD 1 0].take n = (op :: tail).take n := by
  match tail, hn with
  | [], hn => rw [List.length_singleton] at hn; interval_cases n <;> rfl
  | [b1], hn => rw [List.length_cons, List.length_singleton] at hn; interval_cases n <;> rfl
  | b1 :: b2 :: rest, _ => interval_cases n <;> rfl

section
variable {op : Byte} {tail : List Byte} (h : opLength op ≤ (op :: tail).length)
include h

theorem decode_of_length_le : decode (op :: tail) =
    .instr (decodeOp op (tail.getD 0 0) (tail.getD 1 0)) ((op :: tail).drop (opLength op)) :=
  if_neg (Nat.not_lt.mpr h)

/-- What is decoded from the head of a list of bytes is encoded by these bytes. -/
theorem encode_decodeOp_head :
    encode (decodeOp op (tail.getD 0 0) (tail.getD 1 0)) = (op :: tail).take (opLength op) := by
  rw [encode_decodeOp, take_operands op (opLength_bounds op).2 h]

end

/-- Settles O2: the bytes at the head are read as an instruction with the same encoding (`encode_decodeOp_head`), and
there is only one (`encode_injective`). -/
theorem decodeAfterEncode : Obligations.DecodeAfterEncode := by
  intro i rest
  obtain ⟨op, operands, he, hi⟩ := decodeOp_encode i
  have hlen : opLength op = (encode i).length := by rw [← hi, length_encode_decodeOp]
  have hbytes : op :: (operands ++ rest) = encode i ++ rest := by rw [he, List.cons_append]
  have hle : opLength op ≤ (op :: (operands ++ rest)).length := by
    rw [hbytes, hlen, List.length_append]; exact Nat.le_add_right _ _
  have hsame := encode_decodeOp_head hle
  have hdecode := decode_of_length_le hle
  rw [hbytes, hlen, List.take_left] at hsame
  rwa [encode_injective hsame, hbytes, hlen, List.drop_left] at hdecode

/-- Settles O3: the instruction is encoded by the bytes at the head (`encode_decodeOp_head`), and the rest is what
stands after them. -/
theorem encodeAfterDecode : Obligations.EncodeAfterDecode := by
  intro bytes i rest h
  match bytes with
  | [] => cases h
  | op :: tail =>
    by_cases hle : opLength op ≤ (op :: tail).length
    · rw [decode_of_length_le hle] at h
      cases h
      rw [encode_decodeOp_head hle, List.take_append_drop]
    · rw [decode, if_pos (Nat.lt_of_not_le hle)] at h
      cases h

end Sys2Proof
end

section
/-! The step of `EI` (46 R294, 60 R313, R320, 70 R421). -/
namespace Sys2Proof.Machine

/-! ### The interrupt test and the pending enable -/

/-- A dispatch leaves the pending enable as it is, whether it goes through or stops (60 R313). -/
theorem dispatch_eiPending (i : IrqLine) (s : State) :
    (dispatch i s).Holds fun t => t.cpu.eiPending = s.cpu.eiPending := by
  cases hp : push16 s.cpu.pc (s.onCpu Cpu.wake) with
  | ok x u =>
    rw [dispatch_of_ok hp]
    exact (congrArg Cpu.eiPending (push16_ok_cpu hp)).trans rfl
  | stop info u =>
    obtain ⟨⟨sp, hcpu⟩, -⟩ := push16_stop hp
    rw [dispatch_of_stop hp]
    exact (congrArg Cpu.eiPending hcpu).trans rfl

theorem testInterrupts_eiPending (s : State) :
    (testInterrupts s).Holds fun t => t.cpu.eiPending = s.cpu.eiPending := by
  unfold testInterrupts
  split
  · split
    · exact dispatch_eiPending _ s
    · rfl
  · rfl

/-- The test and the synchronization always give a next state, with the pending enable as it was (60 R320). -/
theorem testAndSync_eiPending (s : State) :
    ∃ t, testAndSync s = .next t ∧ t.cpu.eiPending = s.cpu.eiPending := by
  have hkept := testInterrupts_eiPending s
  cases ht : testInterrupts s with
  | ok x u =>
    rw [ht] at hkept
    exact ⟨_, testAndSync_ok ht, (congrArg Cpu.eiPending u.deviceChange_syncDevices.cpu).trans hkept⟩
  | stop info u =>
    rw [ht] at hkept
    exact ⟨_, testAndSync_stop ht, hkept⟩

/-! ### The step -/

theorem Cpu.consumeEi_pending {c : Cpu} (h : c.eiPending = true) :
    c.consumeEi = { c with ime := true, eiPending := false } := if_pos h

theorem Cpu.consumeEi_none {c : Cpu} (h : c.eiPending = false) : c.consumeEi = c := if_neg (by simp [h])

theorem Cpu.consumeEi_runState (c : Cpu) : c.consumeEi.runState = c.runState := by
  unfold Cpu.consumeEi; split <;> rfl

/-- The state in which the instruction at `PC` executes, when it is one byte long: after `EI`'s delayed effect and the
fetch (60 R320, 30 R121). -/
def State.fetchedByte (s : State) : State := (s.onCpu Cpu.consumeEi).afterRead s.cpu.pc

theorem State.fetchedByte_cpu (s : State) : s.fetchedByte.cpu = s.cpu.consumeEi := State.afterRead_cpu _ _

theorem State.fetchedByte_cfg (s : State) : s.fetchedByte.cfg = s.cfg := State.afterRead_cfg _ _

/-- A running machine whose byte at `PC` is `EI` executes it, then tests and synchronizes (60 R320). -/
theorem step_ei {s : State} {f : Cpu → Cpu} (hplan : s.hostPlan = []) (hrun : s.cpu.runState = .running)
    (hb : s.backed s.cpu.pc = true) (hop : s.busValue s.cpu.pc = 0xFB)
    (hf : s.cpu.consumeEi.enableInterrupts s.cfg.eiDelay = f s.cpu.consumeEi)
    (hfrun : (f s.cpu.consumeEi).runState = .running) : step s = testAndSync (s.fetchedByte.afterCpu 1 4 f) := by
  have hpc : (s.onCpu Cpu.consumeEi).cpu.pc = s.cpu.pc := Cpu.consumeEi_pc s.cpu
  have hfetch : fetch (s.onCpu Cpu.consumeEi) = .ok .ei s.fetchedByte := by
    have hbyte : (s.onCpu Cpu.consumeEi).busValue s.cpu.pc = 0xFB := hop
    rw [fetch_of_one_byte (by rwa [hpc]) (by rw [hpc, hbyte]; rfl), hpc, hbyte]
    rfl
  have hexec : exec .ei s.fetchedByte = .next (s.fetchedByte.afterCpu 1 4 f) :=
    exec_ei_afterCpu (by rw [State.fetchedByte_cpu, State.fetchedByte_cfg, hf])
  have hafter : (s.fetchedByte.afterCpu 1 4 f).cpu.runState = .running := by
    rw [← hfrun, ← State.fetchedByte_cpu]; rfl
  rw [step_running hplan hrun, stepRunning, executeNext, hfetch]
  simp only [hexec, onNext]
  exact afterInstruction_goesOn (by simp only [State.isFaulted, hafter]) (by simp [hafter])

/-- Settles O24: with `IME` clear the test dispatches nothing (`testInterrupts_off`); otherwise `EI` leaves no enable
pending, and neither does the test (`testAndSync_eiPending`). -/
theorem eiActsOneInstructionLate : Obligations.EiActsOneInstructionLate := by
  intro s hplan hrun hb hop
  refine ⟨fun hdelay hime hpend => ?late, fun hset => ?set⟩
  case late =>
    have hnone : s.cpu.consumeEi = s.cpu := Cpu.consumeEi_none hpend
    have hstep := step_ei (f := fun c => { c with eiPending := true }) hplan hrun hb hop
      (by rw [hnone, Cpu.enableInterrupts_clear _ hime, hdelay]; rfl) (by rw [hnone]; exact hrun)
    have hcpu : (s.fetchedByte.afterCpu 1 4 fun c => { c with eiPending := true }).cpu =
        { s.cpu with pc := s.cpu.pc + 1, eiPending := true, ticks := s.cpu.ticks + 4 } := by
      rw [State.afterCpu, State.onCpu_cpu, State.fetchedByte_cpu, hnone]; rfl
    have hoff := testAndSync_ok (testInterrupts_off ((congrArg Cpu.ime hcpu).trans hime))
    have ht := (State.deviceChange_syncDevices _).cpu.trans hcpu
    exact ⟨_, hstep.trans hoff, ht, Cpu.consumeEi_pending (congrArg Cpu.eiPending ht)⟩
  case set =>
    have hime : s.cpu.consumeEi.ime = true := by rw [Cpu.consumeEi_ime, Bool.or_eq_true]; exact hset
    have hstep := step_ei (f := id) hplan hrun hb hop (Cpu.enableInterrupts_set _ hime)
      ((Cpu.consumeEi_runState s.cpu).trans hrun)
    obtain ⟨t, ht, hpend⟩ := testAndSync_eiPending (s.fetchedByte.afterCpu 1 4 id)
    refine ⟨t, hstep.trans ht, hpend.trans ?_⟩
    rw [State.afterCpu, State.onCpu_cpu, State.fetchedByte_cpu]
    exact Cpu.consumeEi_eiPending s.cpu

end Sys2Proof.Machine
end

section
/-! The state after reset and after a boot (70 R400 to R407, 20 R90, 60 R303). -/
namespace Sys2Proof.Machine

/-! ### What a boot gives -/

/-- The boot of a type inside the map (70 R406). -/
theorem boot_supported {s : State} {image : CartImage} {mbc : Mbc} (hw : image.wellFormed = true)
    (hm : configMbcOf s.cfg image.hwType = some mbc) : s.boot image = .next (s.booted image mbc) := by
  simp only [State.boot, hw, hm, if_true]

/-- The boot of a type outside the map stops (60 R303). -/
theorem boot_unsupported {s : State} {image : CartImage} (hw : image.wellFormed = true)
    (hm : configMbcOf s.cfg image.hwType = none) : s.boot image =
      .next ((s.booted image .noMbc).raise (.unsupportedCartridgeType image.hwType)) := by
  simp only [State.boot, hw, hm, if_true]
  rfl

/-- A boot that does not stop leaves the boot state. -/
theorem eq_booted_of_boot {s t : State} {image : CartImage} (h : s.boot image = .next t) (hf : t.isFaulted = false) :
    ∃ mbc, t = s.booted image mbc := by
  cases hw : image.wellFormed with
  | false => simp only [State.boot, hw] at h; cases h
  | true =>
    cases hm : configMbcOf s.cfg image.hwType with
    | some mbc => rw [boot_supported hw hm] at h; cases h; exact ⟨mbc, rfl⟩
    | none => rw [boot_unsupported hw hm] at h; cases h; cases hf

theorem configMbcOf_eq_map (k : Config) (hwType : Byte) :
    configMbcOf k hwType = (k.cartTypeMap.find? fun e => e.1 == hwType.toNat).map (·.2) := by
  unfold configMbcOf
  split
  · next h => rw [h]; rfl
  · next h => rw [h]; rfl

/-! ### The save file (70 R405, 20 R92) -/

/-- A dense run of bytes lists its byte at each index. -/
theorem Memory.lookup_ofBytes (index n : Nat) (bytes : List Byte) :
    (Memory.ofBytes index bytes).lookup (index + n) = bytes[n]? := by
  induction bytes generalizing index n with
  | nil => rfl
  | cons v rest ih =>
    cases n with
    | zero => exact if_pos rfl
    | succ n =>
      have hne : index ≠ index + (n + 1) := by omega
      rw [Memory.ofBytes, Memory.lookup, if_neg hne, show index + (n + 1) = index + 1 + n by omega, ih,
        List.getElem?_cons_succ]

/-- External RAM holds the save file's bytes after boot. -/
theorem State.booted_eram (s : State) {image : CartImage} (mbc : Mbc) {bytes : List Byte}
    (hs : image.save = some bytes) {n : Nat} {v : Byte} (hv : bytes[n]? = some v) :
    (s.booted image mbc).cell .eram n = v := by
  have hlookup : (Memory.ofBytes 0 bytes).lookup n = some v := by
    rw [← hv, ← Memory.lookup_ofBytes 0 n bytes, Nat.zero_add]
  simp only [State.cell, Stores.get, State.booted, Stores.boot, hs, Memory.read, hlookup]

/-! ### The settled statements -/

/-- Settles O52: a boot that does not stop leaves the CPU of reset (`eq_booted_of_boot`). -/
theorem cpuAfterBoot : Obligations.CpuAfterBoot := by
  unfold Obligations.CpuAfterBoot
  intro booted
  have hreset : booted Cpu.reset := ⟨rfl, rfl, rfl, rfl, rfl, rfl, rfl, rfl, rfl, rfl, rfl, rfl, rfl, rfl⟩
  refine ⟨hreset, fun s t image h hf => ?_⟩
  obtain ⟨mbc, rfl⟩ := eq_booted_of_boot h hf
  exact hreset

/-- Settles O53: the boot state field by field (`boot_supported`), with LY by `State.booted_ly` and the save file by
`State.booted_eram`; or the stop (`boot_unsupported`). -/
theorem bootOfACartridge : Obligations.BootOfACartridge := by
  intro s image hw
  cases hm : s.cfg.cartTypeMap.find? fun e => e.1 == (image.byteAt 0x147).toNat with
  | none =>
    refine ⟨_, boot_unsupported hw ?_, fun _ => rfl, nofun⟩
    exact (configMbcOf_eq_map _ _).trans (congrArg _ hm)
  | some entry =>
    refine ⟨_, boot_supported (mbc := entry.2) hw ?_, nofun, fun e he => ?_⟩
    · exact (configMbcOf_eq_map _ _).trans (congrArg _ hm)
    · obtain rfl := Option.some.inj he
      exact ⟨rfl, rfl, rfl, rfl, rfl, rfl, rfl, rfl, fun name => by cases name <;> rfl, rfl, rfl, s.booted_ly image _,
        fun bytes hs n v hv => s.booted_eram _ hs hv⟩

/-- Settles O54: the page after reset lists nothing, so that each byte is `ioReset`'s, the table's or zero. -/
theorem ioAfterReset : Obligations.IoAfterReset := by
  unfold Obligations.IoAfterReset
  intro table
  refine ⟨by decide, fun n hn => ?_, rfl⟩
  have hlisted (k : Nat) (hk : (k, ioReset k) ∈ table) : k ≠ n := hn _ hk
  show ioReset n = 0
  unfold ioReset
  split
  case h_21 => rfl
  all_goals exact absurd rfl (hlisted _ (by decide))

/-- Settles O55: every store lists nothing, and the other invariants are about single values. -/
theorem resetInv : Obligations.ResetInv := by
  refine ⟨by decide, rfl, fun st => ?memory, ⟨by decide, nofun⟩, ?video, ?audio, ⟨rfl, rfl, le_refl _, fun _ => rfl⟩⟩
  case memory => cases st <;> exact Memory.formIn_nil _ _
  case video => exact ⟨rfl, fun _ => by decide, fun h => absurd rfl h⟩
  case audio => exact ⟨rfl, by unfold Channel.inRange; decide, by unfold Channel.inRange; decide⟩

end Sys2Proof.Machine
end

section
/-! How many ticks an instruction adds (30 R129, 70 R430): a handler leaves the ticks alone, and the frame around it
adds the duration of its row, with the extra ticks of a condition that holds. -/
namespace Sys2Proof.Machine

/-- The durations of the instructions that do not stop (70 R430). -/
def durations : List Nat := [4, 8, 12, 16, 20, 24]

/-! ### Handlers leave the ticks alone -/

/-- The CPU's tick count is `n`. -/
def State.AtTicks (n : Nat) (s : State) : Prop := s.cpu.ticks = n

/-- A handler that leaves the ticks, whether it goes through or stops. -/
def KeepsTicks (handler : State → Access Unit) : Prop := ∀ n s, s.AtTicks n → (handler s).Holds (State.AtTicks n)

section
variable {n : Nat} {s : State}

theorem readByte_atTicks (a : Word) (h : s.AtTicks n) : (readByte a s).Holds (State.AtTicks n) := by
  unfold readByte; split
  · exact (congrArg Cpu.ticks (s.afterRead_cpu a)).trans h
  · exact h

theorem writeByte_atTicks (a : Word) (v : Byte) (h : s.AtTicks n) : (writeByte a v s).Holds (State.AtTicks n) :=
  (congrArg Cpu.ticks (writeByte_cpu a v s)).trans h

/-- A change of the CPU after an access. -/
theorem Access.changeAfter_atTicks {α : Type} {x : Access α} {f : α → Cpu → Cpu} (hx : x.Holds (State.AtTicks n))
    (hf : ∀ v c, (f v c).ticks = c.ticks) :
    (x.andThen fun v s1 => (.ok () (s1.onCpu (f v)) : Access Unit)).Holds (State.AtTicks n) :=
  Access.holds_andThen hx fun v _ _ h1 => (hf v _).trans h1

theorem push16_atTicks (v : Word) (h : s.AtTicks n) : (push16 v s).Holds (State.AtTicks n) := by
  rw [push16_eq]
  exact Access.holds_andThen (writeByte_atTicks _ _ h) fun _ _ _ h1 => writeByte_atTicks _ _ h1

theorem pop16_atTicks (h : s.AtTicks n) : (pop16 s).Holds (State.AtTicks n) :=
  Access.holds_andThen (readByte_atTicks _ h) fun _ s1 _ h1 =>
    Access.holds_andThen (readByte_atTicks (s := s1.onCpu fun c => c.setSp (c.sp + 1)) _ h1) fun _ _ _ h2 => h2

end

theorem KeepsTicks.cpuOnly {f : Cpu → Cpu} (hf : ∀ c, (f c).ticks = c.ticks) : KeepsTicks (cpuOnly f) :=
  fun _ s h => (hf s.cpu).trans h

theorem KeepsTicks.loadA (a : State → Word) : KeepsTicks fun s => loadA (a s) s := fun _ _ h =>
  Access.changeAfter_atTicks (readByte_atTicks _ h) fun _ _ => rfl

theorem KeepsTicks.write (a : State → Word) (v : State → Byte) : KeepsTicks fun s => writeByte (a s) (v s) s :=
  fun _ _ h => writeByte_atTicks _ _ h

theorem KeepsTicks.storeA (a : State → Word) : KeepsTicks fun s => storeA (a s) s := .write a fun s => s.cpu.a

theorem KeepsTicks.writeWord (a : Word) (v : State → Word) : KeepsTicks fun s => writeWord a (v s) s := fun _ _ h =>
  Access.holds_andThen (writeByte_atTicks _ _ h) fun _ _ _ h1 => writeByte_atTicks _ _ h1

theorem KeepsTicks.withHl {f : Byte → Cpu → Cpu} (hf : ∀ v c, (f v c).ticks = c.ticks) : KeepsTicks (withHl f) :=
  fun _ _ h => Access.changeAfter_atTicks (readByte_atTicks _ h) hf

theorem KeepsTicks.modifyHl (result : Byte → Flags → Byte) (flags : Byte → Flags → Option Flags) :
    KeepsTicks (modifyHl result flags) := fun _ _ h =>
  Access.holds_andThen (readByte_atTicks _ h) fun _ _ _ h1 =>
    Access.holds_andThen (writeByte_atTicks _ _ h1) fun _ _ _ h2 => by split <;> exact h2

theorem KeepsTicks.thenMoveHl (delta : Word) {handler : State → Access Unit} (hh : KeepsTicks handler) :
    KeepsTicks fun s => thenMoveHl delta (handler s) := fun _ _ h =>
  Access.changeAfter_atTicks (hh _ _ h) fun _ _ => rfl

theorem KeepsTicks.push (v : State → Word) : KeepsTicks fun s => push16 (v s) s := fun _ _ h => push16_atTicks _ h

/-- A pop into the CPU: `POP`, and the returns. -/
theorem KeepsTicks.pop {f : Word → Cpu → Cpu} (hf : ∀ v c, (f v c).ticks = c.ticks) : KeepsTicks (popInto f) :=
  fun _ _ h => Access.changeAfter_atTicks (pop16_atTicks h) hf

theorem KeepsTicks.jumpTo (target : State → Word) : KeepsTicks fun s => jumpTo (target s) s := fun _ _ h => h

theorem KeepsTicks.jumpRelative (e8 : Byte) : KeepsTicks (jumpRelative e8) := .cpuOnly fun _ => rfl

theorem KeepsTicks.callTo (target : Word) : KeepsTicks (callTo target) := fun _ _ h =>
  Access.changeAfter_atTicks (push16_atTicks _ h) fun _ _ => rfl

theorem KeepsTicks.returnToCaller : KeepsTicks returnToCaller := .pop (f := fun v c => c.setPc v) fun _ _ => rfl

/-! ### Changes of the CPU that leave the ticks -/

theorem Cpu.setRp_ticks (c : Cpu) (p : Rp) (v : Word) : (c.setRp p v).ticks = c.ticks := by cases p <;> rfl

theorem Cpu.setRp2_ticks (c : Cpu) (p : Rp2) (v : Word) : (c.setRp2 p v).ticks = c.ticks := by cases p <;> rfl

theorem modifyReg_ticks (r : R8) (result : Byte → Flags → Byte) (flags : Byte → Flags → Option Flags) (c : Cpu) :
    (modifyReg r result flags c).ticks = c.ticks := by
  unfold modifyReg
  dsimp only
  split <;> exact c.setReg_ticks r _

theorem Cpu.enableInterrupts_ticks (delay : Bool) (c : Cpu) : (c.enableInterrupts delay).ticks = c.ticks := by
  unfold Cpu.enableInterrupts
  repeat' split
  all_goals rfl

/-! ### The frame of an instruction -/

/-- An answer that goes on with a duration added, unless it stopped (70 R430). -/
def TakesTicks (s : State) (x : Answer) : Prop :=
  ∀ t, x = .next t → t.isFaulted = false → ∃ d ∈ durations, t.cpu.ticks = s.cpu.ticks + d

theorem TakesTicks.runOp {len ticks : Nat} {handler : State → Access Unit} (hh : KeepsTicks handler)
    (hd : ticks ∈ durations) (s : State) : TakesTicks s (runOp len ticks handler s) := by
  intro t ht hf
  have hkept := hh s.cpu.ticks (s.onCpu fun c => c.setPc (c.pc + BitVec.ofNat 16 len)) rfl
  rcases runOp_cases len ticks handler s with ⟨u, hu, hn⟩ | ⟨info, u, -, hn⟩
  · rw [hu] at hkept
    rw [hn] at ht
    cases ht
    exact ⟨ticks, hd, congrArg (· + ticks) hkept⟩
  · rw [hn] at ht
    cases ht
    cases hf

/-- Every execution of an instruction adds one of the durations, or stops. -/
def InstrTakes (i : Instr) : Prop := ∀ s, TakesTicks s (exec i s)

section
variable {i : Instr} {len ticks : Nat}

theorem InstrTakes.of_handler {handler : State → Access Unit} (he : ∀ s, exec i s = runOp len ticks handler s)
    (hh : KeepsTicks handler) (hd : ticks ∈ durations := by decide) : InstrTakes i :=
  fun s => he s ▸ .runOp hh hd s

theorem InstrTakes.of_cpu {f : Cpu → Cpu} (he : ∀ s, exec i s = runOp len ticks (cpuOnly f) s)
    (hf : ∀ c, (f c).ticks = c.ticks) (hd : ticks ∈ durations := by decide) : InstrTakes i :=
  .of_handler he (.cpuOnly hf) hd

/-- A condition adds its extra ticks where it holds (30 R129). -/
theorem InstrTakes.of_taken {cc : Cond} {extra : Nat} {handler : State → Access Unit}
    (he : ∀ s, exec i s = Machine.runOp len ticks (whenTaken cc extra handler) s) (hh : KeepsTicks handler)
    (hd : ticks ∈ durations := by decide) (htaken : ticks + extra ∈ durations := by decide) : InstrTakes i := by
  intro s
  rw [he, runOp_whenTaken]
  split
  · exact .runOp hh htaken s
  · rintro t ⟨⟩ -
    exact ⟨ticks, hd, rfl⟩

theorem InstrTakes.of_illegal {op : IllegalOp} (he : ∀ s, exec i s = raiseUnimplemented op s) : InstrTakes i := by
  intro s t ht hf
  rw [he] at ht
  cases ht
  cases hf

end

theorem instrTakes_ei : InstrTakes .ei := fun s => exec_ei s ▸
  .runOp (.cpuOnly (Cpu.enableInterrupts_ticks s.cfg.eiDelay)) (by decide) s

/-! ### Every instruction -/

/-- Every instruction that does not stop adds one of the durations (70 R430). -/
theorem instrTakes (i : Instr) : InstrTakes i := by
  refine Instr.byShape (P := InstrTakes) (i := i)
    (ldRR := fun r r' => .of_cpu (exec_ldRR r r') fun c => c.setReg_ticks r _)
    (ldRImm := fun r v => .of_cpu (exec_ldRImm r v) fun c => c.setReg_ticks r _)
    (ldRHl := fun r => .of_handler (exec_ldRHl r) (.withHl fun v c => c.setReg_ticks r v))
    (ldHlR := fun r => .of_handler (exec_ldHlR r) (.write _ _))
    (ldRpImm := fun p v => .of_cpu (exec_ldRpImm p v) fun c => c.setRp_ticks p v)
    (pushRp2 := fun p => .of_handler (exec_pushRp2 p) (.push _))
    (popRp2 := fun p => .of_handler (exec_popRp2 p) (.pop fun v c => c.setRp2_ticks p v))
    (aluR := fun op r => .of_cpu (exec_aluR op r) fun _ => rfl)
    (aluHl := fun op => .of_handler (exec_aluHl op) (.withHl fun _ _ => rfl))
    (aluImm := fun op v => .of_cpu (exec_aluImm op v) fun _ => rfl)
    (incR := fun r => .of_cpu (exec_incR r) (modifyReg_ticks r _ _))
    (decR := fun r => .of_cpu (exec_decR r) (modifyReg_ticks r _ _))
    (addHlRp := fun p => .of_cpu (exec_addHlRp p) fun _ => rfl)
    (incRp := fun p => .of_cpu (exec_incRp p) fun c => c.setRp_ticks p _)
    (decRp := fun p => .of_cpu (exec_decRp p) fun c => c.setRp_ticks p _)
    (rotR := fun op r => .of_cpu (exec_rotR op r) (modifyReg_ticks r _ _))
    (rotHl := fun op => .of_handler (exec_rotHl op) (.modifyHl _ _))
    (bitR := fun b r => .of_cpu (exec_bitR b r) fun _ => rfl)
    (bitHl := fun b => .of_handler (exec_bitHl b) (.withHl fun _ _ => rfl))
    (resR := fun b r => .of_cpu (exec_resR b r) (modifyReg_ticks r _ _))
    (resHl := fun b => .of_handler (exec_resHl b) (.modifyHl _ _))
    (setR := fun b r => .of_cpu (exec_setR b r) (modifyReg_ticks r _ _))
    (setHl := fun b => .of_handler (exec_setHl b) (.modifyHl _ _))
    (jpCc := fun cc v => .of_taken (exec_jpCc cc v) (.jumpTo _))
    (jrCc := fun cc v => .of_taken (exec_jrCc cc v) (.jumpRelative v))
    (callCc := fun cc v => .of_taken (exec_callCc cc v) (.callTo v))
    (retCc := fun cc => .of_taken (exec_retCc cc) .returnToCaller)
    (rst := fun b => .of_handler (exec_rst b) (.callTo _))
    (illegal := fun op => .of_illegal (exec_illegal op))
    (nop := .of_cpu (f := id) (fun _ => rfl) fun _ => rfl)
    (ld_atBC_A := .of_handler (fun _ => rfl) (.storeA fun s => s.cpu.bc))
    (rlca := .of_cpu (fun _ => rfl) (modifyReg_ticks .a _ _))
    (ld_atA16_SP := fun v => .of_handler (fun _ => rfl) (.writeWord v fun s => s.cpu.sp))
    (ld_A_atBC := .of_handler (fun _ => rfl) (.loadA fun s => s.cpu.bc))
    (rrca := .of_cpu (fun _ => rfl) (modifyReg_ticks .a _ _))
    (stop := fun _ => .of_cpu (fun _ => rfl) fun _ => rfl)
    (ld_atDE_A := .of_handler (fun _ => rfl) (.storeA fun s => s.cpu.de))
    (rla := .of_cpu (fun _ => rfl) (modifyReg_ticks .a _ _))
    (jr_e8 := fun v => .of_handler (fun _ => rfl) (.jumpRelative v))
    (ld_A_atDE := .of_handler (fun _ => rfl) (.loadA fun s => s.cpu.de))
    (rra := .of_cpu (fun _ => rfl) (modifyReg_ticks .a _ _))
    (ld_atHLI_A := .of_handler (fun _ => rfl) (.thenMoveHl 1 (.storeA fun s => s.cpu.hl)))
    (daa := .of_cpu (fun _ => rfl) fun _ => rfl)
    (ld_A_atHLI := .of_handler (fun _ => rfl) (.thenMoveHl 1 (.loadA fun s => s.cpu.hl)))
    (cpl := .of_cpu (fun _ => rfl) fun _ => rfl)
    (ld_atHLD_A := .of_handler (fun _ => rfl) (.thenMoveHl (-1) (.storeA fun s => s.cpu.hl)))
    (inc_atHL := .of_handler (fun _ => rfl) (.modifyHl _ _))
    (dec_atHL := .of_handler (fun _ => rfl) (.modifyHl _ _))
    (ld_atHL_d8 := fun v => .of_handler (fun _ => rfl) (.write (fun s => s.cpu.hl) fun _ => v))
    (scf := .of_cpu (fun _ => rfl) fun _ => rfl)
    (ld_A_atHLD := .of_handler (fun _ => rfl) (.thenMoveHl (-1) (.loadA fun s => s.cpu.hl)))
    (ccf := .of_cpu (fun _ => rfl) fun _ => rfl)
    (halt := .of_cpu (fun _ => rfl) fun _ => rfl)
    (jp_a16 := fun v => .of_handler (fun _ => rfl) (.jumpTo fun _ => v))
    (ret := .of_handler (fun _ => rfl) .returnToCaller)
    (call_a16 := fun v => .of_handler (fun _ => rfl) (.callTo v))
    (reti := .of_handler (handler := returnFromInterrupt) (fun _ => rfl) (.pop fun _ _ => rfl))
    (ldh_atA8_A := fun v => .of_handler (fun _ => rfl) (.storeA fun _ => highPage v))
    (ld_atC_A := .of_handler (fun _ => rfl) (.storeA fun s => highPage s.cpu.c))
    (add_SP_e8 := fun _ => .of_cpu (fun _ => rfl) fun _ => rfl)
    (jp_HL := .of_handler (fun _ => rfl) (.jumpTo fun s => s.cpu.hl))
    (ld_atA16_A := fun v => .of_handler (fun _ => rfl) (.storeA fun _ => v))
    (ldh_A_atA8 := fun v => .of_handler (fun _ => rfl) (.loadA fun _ => highPage v))
    (ld_A_atC := .of_handler (fun _ => rfl) (.loadA fun s => highPage s.cpu.c))
    (di := .of_cpu (fun _ => rfl) fun _ => rfl)
    (ld_HL_SP_e8 := fun _ => .of_cpu (fun _ => rfl) fun _ => rfl)
    (ld_SP_HL := .of_cpu (fun _ => rfl) fun _ => rfl)
    (ld_A_atA16 := fun v => .of_handler (fun _ => rfl) (.loadA fun _ => v))
    (ei := instrTakes_ei)

/-- Settles O29: every instruction adds one of the six durations (`instrTakes`). -/
theorem ticksOfInstructions : Obligations.TicksOfInstructions := by
  intro i s t _ hn hf
  obtain ⟨d, hd, ht⟩ := instrTakes i s t hn hf
  rw [ht]
  exact List.mem_map_of_mem (f := (s.cpu.ticks + ·)) hd

end Sys2Proof.Machine
end
